-- ==== Sys2Proof/Word.lean ====
section
/-! DEFINITION. Word: the word types of the BJ-432 (00_scope.md, Terms: a word is 16 bits, a timestamp 48, a line mask 32). -/
namespace Sys2Proof

/-- A word of the bus or of a record: 16 bits. -/
abbrev Word := BitVec 16

/-- A timestamp: a 48-bit count of microseconds (R25). -/
abbrev Timestamp := BitVec 48

/-- A mask over the field lines: position n stands for Fn (R2). -/
abbrev LineMask := BitVec 32

end Sys2Proof
end

