-- ==== Sys2Proof/Syntax.lean ====
section
/-! DEFINITION. Syntax: the commands of the block, one constructor per row of spec/opcode_table.json, in the table's order. -/
namespace Sys2Proof

/-- A field line, F0 to F31. -/
abbrev LineId := Fin 32
/-- A first-out group, G0 to G7. -/
abbrev GroupId := Fin 8
/-- A correlation rule, 0 to 15. -/
abbrev RuleId := Fin 16
/-- An output, Q0 to Q7. -/
abbrev OutputId := Fin 8

/-- A logic level (Table 39: 0 for LOW, 1 for HIGH). -/
inductive Level
  | low | high
deriving DecidableEq, Repr

/-- The two halves of the register window, each with its slot, channel and interrupt output. -/
inductive Half
  | control | archive
deriving DecidableEq, Repr

/-- A word number of the register window, 0 to 63 (R182). -/
abbrev WordId := BitVec 6

/-- The commands. A half names the part of the window the access came through; a command of a slot
takes its operands from that half's ARG0 and ARG1 (R186). -/
inductive Instr
  /-- A field input is sampled at the level (R1). -/
  | fieldLineChange (line : LineId) (level : Level)
  /-- A rising edge on SYNC (R27). -/
  | syncPulse
  /-- RESETn is released (R193). -/
  | hardwareReset
  /-- A line's qualification timer expires (R6, R9, R10). -/
  | qualificationExpiry (line : LineId)
  /-- A line's chatter window timer expires (R12). -/
  | chatterWindowExpiry (line : LineId)
  /-- A line's release timer expires (R15). -/
  | releaseExpiry (line : LineId)
  /-- The SYNC supervision timer expires (R31). -/
  | supervisionExpiry
  /-- The hold remaining reaches 0 (R29). -/
  | holdAbsorbed
  /-- A group's resolution timer expires (R51). -/
  | resolutionTimerExpiry (group : GroupId)
  /-- The lapse timer of the rule's open context at this place, 0 the oldest, expires (R118). -/
  | lapseTimerExpiry (rule : RuleId) (place : Nat)
  /-- The escalation timer of a line's alarm entry expires (R144). -/
  | escalationTimerExpiry (line : LineId)
  /-- An output's pulse length timer expires (R160). -/
  | lengthTimerExpiry (output : OutputId)
  /-- An output's gap timer expires (R161). -/
  | gapTimerExpiry (output : OutputId)
  /-- A channel's READY holdoff timer expires (R102). -/
  | holdoffTimerExpiry (half : Half)
  /-- The flash phase reaches its next cadence boundary (R155). -/
  | flashPhase
  /-- A read of CHANNEL DATA (R91, R92). -/
  | channelDataRead (half : Half)
  /-- A read of CHANNEL STATUS (R104). -/
  | channelStatusRead (half : Half)
  /-- A read of TIME HIGH (R36). -/
  | timeHighRead (half : Half)
  /-- A read of TABLE DATA (R195). -/
  | tableDataRead
  /-- A read of MIRROR DATA (R195, R197). -/
  | mirrorDataRead
  /-- A write of TABLE DATA (R198). -/
  | tableDataWrite (value : Word)
  /-- A read of TABLE STATUS (R196). -/
  | tableStatusRead
  /-- A write of TABLE ADDRESS (R194). -/
  | tableAddressWrite (value : Word)
  /-- A write of MIRROR ADDRESS (R194). -/
  | mirrorAddressWrite (value : Word)
  /-- A write of STORE CONTROL by the control half (R79). -/
  | storeControlWrite (value : Word)
  /-- A write of TIME CONTROL by the control half (R26). -/
  | timeControlWrite (value : Word)
  /-- A write of OUTPUT DATA by the control half (R154). -/
  | outputDataWrite (value : Word)
  /-- A write of a half's READY THRESHOLD (R100). -/
  | readyThresholdWrite (half : Half) (value : Word)
  /-- A write of a half's READY HOLDOFF (R100). -/
  | readyHoldoffWrite (half : Half) (value : Word)
  /-- A write of a half's CHANNEL CAUSES (R172, R173). -/
  | channelCausesWrite (half : Half) (value : Word)
  /-- A write of SYSTEM CAUSES through a half (R173). -/
  | systemCausesWrite (half : Half) (value : Word)
  /-- A write of SYSTEM ROUTES by the control half (R175). -/
  | systemRoutesWrite (value : Word)
  /-- A write of a register word with no row of its own (R182). -/
  | registerWrite (word : WordId) (value : Word)
  /-- A write to CMD of a value that is no command code (R187). -/
  | badCommand (half : Half) (value : Word)
  | armLine (half : Half)
  | disarmLine (half : Half)
  | inject (half : Half)
  | endInject (half : Half)
  | groupReset (half : Half)
  | ruleEnable (half : Half)
  | ruleDisable (half : Half)
  | setTime (half : Half)
  | snapshot (half : Half)
  | storeClear (half : Half)
  | pulse (half : Half)
  | restart (half : Half)
  | ackLine (half : Half)
  | ackAll (half : Half)
  | silence (half : Half)
  | mark (half : Half)
  | channelEnableFromOldest (half : Half)
  | channelEnableFromNext (half : Half)
  | channelDisable (half : Half)
  | channelSkip (half : Half)
  | channelReread (half : Half)
  /-- RESETn is asserted (R183). -/
  | resetnAsserted
deriving DecidableEq, Repr

/-- The command codes of Table 41. -/
def commandCodes : List Word :=
  [0x01, 0x02, 0x03, 0x04, 0x08, 0x0C, 0x0D, 0x10, 0x11, 0x12, 0x14, 0x1F] ++
  [0x20, 0x21, 0x22, 0x23, 0x30, 0x31, 0x32, 0x33, 0x34]

/-- The words whose writes have rows of their own in the opcode table (Table 38): CMD, the ports, STORE CONTROL,
TIME CONTROL, OUTPUT DATA, the READY words, the cause words and SYSTEM ROUTES, in the half that may write them. -/
def wordsWithOwnRow : List WordId :=
  [4, 6, 7, 9, 14, 19, 26, 27, 28, 29, 30] ++ [36, 38, 58, 59, 60, 61]

end Sys2Proof
end

