-- ==== Sys2Proof/Config.lean ====
section
/-! DEFINITION. Config: the free values, each an opaque constant without a body: the orders the manual leaves open
(no proof can evaluate them, so a claim holds whichever order is taken). -/
namespace Sys2Proof

/-- Which of several timers due at one moment is taken first (R8, R118, R185: either may be taken first); log 4. -/
opaque Config.dueChoice : Nat → Nat

/-- Whether the next record of a discontinuity notice is the Group Unit's (true) or the Correlation Engine's (R124: the
two blocks' records stand in the order the store takes them); log 5. -/
opaque Config.noticeChoice : Nat → Nat → Bool

/-- In which order several contexts lapse at once after one event (R110, R118: either order); log 6. -/
opaque Config.lapseChoice : Nat → Nat → Nat

end Sys2Proof
end

