-- ==== Sys2Proof/Machine/State.lean ====
section
/-! DEFINITION. State: the state of the BJ-432 as plain data, block by block (00_scope.md, Table 1), and the state after reset.
A running timer is held as the elapsed time, in microseconds, at which it expires (R35, R203); none is a stopped timer. -/
namespace Sys2Proof.Machine

/-- Something held once for each half of the window. -/
structure PerHalf (α : Type) where
  control : α
  archive : α
deriving DecidableEq, Repr

/-! ## Time (Chapter 2) -/

/-- Time quality (Table 11). -/
inductive Quality
  | free | acquiring | locked | holdover
deriving DecidableEq, Repr

/-- A timestamp with the quality code that went with it (R25). -/
structure Stamp where
  time : Timestamp
  quality : Quality
deriving DecidableEq, Repr

/-- A half's time read latch (R36). -/
structure TimeLatch where
  middle : Word
  low : Word
  quality : Quality
deriving DecidableEq, Repr

/-- The Time Base (Chapter 2). `elapsed` is the count of the reference clock in microseconds since reset (R203). -/
structure TimeBase where
  elapsed : Nat
  counter : Timestamp
  quality : Quality
  syncEnable : Bool
  tolerance : Word
  stepLimit : Word
  lastPulse : Option Nat
  supervision : Option Nat
  hold : Word
  setHigh : Word
  latches : PerHalf TimeLatch
deriving DecidableEq, Repr

/-! ## Lines (Chapters 1 and 3) -/

/-- Conditioning states (Table 7). -/
inductive Cond
  | disarmed | settling | normal | departing | offnormal | returning | chatter
deriving DecidableEq, Repr

/-- An open chatter window: its transition count and the elapsed time at which it closes (R12). -/
structure ChatterWindow where
  count : Nat
  closesAt : Nat
deriving DecidableEq, Repr

/-- The conditioning state of one line (section 1.4). `effective` is the effective level last observed (R1);
`injected` is the injected level, present exactly while the test flag is set (R17). -/
structure LineState where
  physical : Level
  effective : Level
  cond : Cond
  qualified : Option Level
  edge : Option Stamp
  qualTimer : Option Nat
  window : Option ChatterWindow
  suppressed : Word
  lastChange : Option Stamp
  releaseTimer : Option Nat
  injected : Option Level
deriving DecidableEq, Repr

/-- The direction of a qualified change (Table 46: 0 DEPART, 1 RETURN). -/
inductive Direction
  | depart | giveBack
deriving DecidableEq, Repr

/-- Ack modes (Chapter 7; Table 43: 0 NONE, 1 DEPART, 2 BOTH). -/
inductive AckMode
  | off | depart | both
deriving DecidableEq, Repr

/-- A Line Table entry (Tables 6 and 15). -/
structure LineEntry where
  normal : Level
  profile : Fin 4
  snapshot : Bool
  ackMode : AckMode
  recordDepartures : Bool
  recordReturns : Bool
  cls : BitVec 4
  priority : Fin 4
  group : Option GroupId
  departAction : Option OutputId
  returnAction : Option OutputId
deriving DecidableEq, Repr

/-- A Profile Table entry (Table 5): tenths of a millisecond, a count, milliseconds, milliseconds. -/
structure Profile where
  checkTime : Word
  chatterLimit : Fin 16
  chatterWindow : Word
  releaseTime : Word
deriving DecidableEq, Repr

/-! ## First-out groups (Chapter 3) -/

/-- Group states (Table 18). -/
inductive GroupPhase
  | clear | resolving | tripped
deriving DecidableEq, Repr

/-- A departed member of a resolving group, with what the classifier passed (R46, R49). -/
structure Candidate where
  line : LineId
  stamp : Stamp
  test : Bool
  ref : Option Word
deriving DecidableEq, Repr

/-- The first-out of a tripped group (Table 18). -/
structure FirstOut where
  line : LineId
  stamp : Stamp
  ref : Option Word
deriving DecidableEq, Repr

/-- A first-out group (Table 18). -/
structure FirstOutGroup where
  window : Word
  phase : GroupPhase
  candidates : List Candidate
  timer : Option Nat
  firstOut : Option FirstOut
  coincident : LineMask
  candidateCount : Nat
  consequents : Word
  discontinuity : Bool
deriving DecidableEq, Repr

/-! ## Correlation (Chapter 6) -/

/-- One step of a rule: a line and a direction (Table 27). -/
structure RuleStep where
  line : LineId
  direction : Direction
deriving DecidableEq, Repr

/-- A matched step of a context: its reference, edge and test tag (Table 28). -/
structure StepHeld where
  ref : Option Word
  stamp : Stamp
  test : Bool
deriving DecidableEq, Repr

/-- An open context (Table 28): position k is matched when `steps` holds it; the lapse timer always runs. -/
structure CorrContext where
  steps : Vector (Option StepHeld) 4
  start : Stamp
  deadline : Timestamp
  lapsesAt : Nat
deriving DecidableEq, Repr

/-- A Rule Table entry with its counters, and the rule's open contexts, oldest first (R109). -/
structure CorrRule where
  enabled : Bool
  stepCount : Nat
  steps : Vector RuleStep 4
  ordered : Bool
  window : Word
  grace : Word
  limit : Nat
  recordLapses : Bool
  action : Option OutputId
  matchCount : Word
  lapseCount : Word
  missedStarts : Word
  contexts : List CorrContext
deriving DecidableEq, Repr

/-! ## Alarms (Chapter 7) -/

/-- Alarm entry states (Table 30). -/
inductive AlarmPhase
  | alert | acked | returned
deriving DecidableEq, Repr

/-- An alarm entry (Table 30). -/
structure AlarmEntry where
  line : LineId
  phase : AlarmPhase
  priority : Fin 4
  first : Stamp
  ref : Option Word
  repeats : BitVec 8
  test : Bool
  chatter : Bool
  silenced : Bool
  timer : Option Nat
deriving DecidableEq, Repr

/-- An Escalation Table entry (Table 31): seconds, and the escalation action. -/
structure EscalationEntry where
  time : Word
  action : Option OutputId
deriving DecidableEq, Repr

/-- Lamp patterns (R146). -/
inductive Lamp
  | off | steady | slow | fast
deriving DecidableEq, Repr

/-- The summary of one priority threshold: lamp pattern and horn condition (R146). -/
structure Summary where
  lamp : Lamp
  horn : Bool
deriving DecidableEq, Repr

/-- The Alarm List (Chapter 7): entries oldest first. -/
structure AlarmList where
  entries : List AlarmEntry
  escalation : Vector EscalationEntry 4
  ackRecording : Bool
  summaries : Vector Summary 4
deriving DecidableEq, Repr

/-! ## Records and the Event Store (Chapter 4) -/

/-- Reasons of a LAPSE record (R119). -/
inductive LapseReason
  | window | disabled | timeStep
deriving DecidableEq, Repr

/-- Resulting states of an ACK record (R64). -/
inductive AckResult
  | acked | removed
deriving DecidableEq, Repr

/-- Subkinds of a TIME record (Table 13). -/
inductive TimeKind
  | set | step | quality
deriving DecidableEq, Repr

/-- Causes of a RESTART record (R64). -/
inductive RestartCause
  | reset | command
deriving DecidableEq, Repr

/-- The seventeen record kinds with their bodies (Tables 20 and 46). An optional part is an Option; a MATCH or a LAPSE
holds one reference, or none, for each of the step positions 1 to 4 (R65). -/
inductive Body
  | line (line : LineId) (direction : Direction) (cls : BitVec 4) (priority : Fin 4) (group : Option GroupId)
      (mask : Option LineMask)
  | armed (line : LineId) (level : Level)
  | disarmed (line : LineId)
  | chatterOn (line : LineId) (level : Level)
  | chatterOff (line : LineId) (level : Level) (suppressed : Word)
  | groupTrip (group : GroupId) (discontinuity : Bool) (first : LineId) (count : Nat) (coincident : LineMask)
      (ref : Option Word)
  | groupClear (group : GroupId) (consequents : Word)
  | matched (rule : RuleId) (stepCount : Nat) (refs : Vector (Option Word) 4)
  | lapsed (rule : RuleId) (reason : LapseReason) (steps : Vector Bool 4) (refs : Vector (Option Word) 4)
  | escalate (line : LineId) (priority : Fin 4)
  | ack (line : LineId) (result : AckResult) (tag : Word) (side : Half)
  | silence (count : Nat) (side : Half)
  | time (kind : TimeKind) (old new : Quality) (step : BitVec 48)
  | loss (first : Word) (count : BitVec 32)
  | snapshot (effective offnormal armed chatter : LineMask)
  | mark (note : Word) (side : Half)
  | restart (cause : RestartCause)
deriving DecidableEq, Repr

/-- A record: the header's number, timestamp with quality, and TEST flag, and the body. The words a channel delivers
are `Record.words` (R200, R201). -/
structure Record where
  number : Word
  stamp : Stamp
  test : Bool
  body : Body
deriving DecidableEq, Repr

/-- Store policies (R79). -/
inductive Policy
  | hold | wrap
deriving DecidableEq, Repr

/-- A pending loss (Table 21). -/
structure PendingLoss where
  first : Word
  count : BitVec 32
  stamp : Stamp
deriving DecidableEq, Repr

/-- The Event Store (Chapter 4): the records held, oldest first; `tail` is the ring position at which the next record begins (R60). -/
structure Store where
  records : List Record
  tail : BitVec 12
  next : Word
  policy : Policy
  loss : Option PendingLoss
deriving DecidableEq, Repr

/-! ## Reader channels (Chapter 5) -/

/-- A reader channel (Table 23). The cursor is stored as the unread count, which R86 makes the number of records from
the cursor to the newest: the cursor is at end exactly when it is 0 (log 15). -/
structure Channel where
  enabled : Bool
  unread : Nat
  offset : Nat
  missed : Word
  torn : Bool
  emptyRead : Bool
  threshold : Word
  holdoff : Word
  holdoffTimer : Option Nat
deriving DecidableEq, Repr

/-! ## Outputs (Chapter 8) -/

/-- Output modes (Table 33). -/
inductive OutputMode
  | direct | lamp | horn | pulse
deriving DecidableEq, Repr

/-- Output drives (Table 33). -/
inductive Drive
  | pushPull | openDrain | highZ
deriving DecidableEq, Repr

/-- Output polarities (Table 33). -/
inductive Polarity
  | activeHigh | activeLow
deriving DecidableEq, Repr

/-- Retrigger policies (Table 33). -/
inductive Retrigger
  | restart | queue
deriving DecidableEq, Repr

/-- Pulse states (Table 34). -/
inductive PulsePhase
  | idle | pulsing | gap
deriving DecidableEq, Repr

/-- One output: its Output Table entry and its pulse state. The timer is the length timer in PULSING and the gap timer in GAP. -/
structure OutputLine where
  mode : OutputMode
  drive : Drive
  polarity : Polarity
  threshold : Fin 4
  length : Word
  gap : Word
  retrigger : Retrigger
  phase : PulsePhase
  timer : Option Nat
  queued : Nat
  dropped : Word
deriving DecidableEq, Repr

/-- The Output Unit (Chapter 8): `handed` is what the Alarm List last handed; `flash` counts the microseconds of the
1000 ms flash phase (R155). -/
structure OutputUnit where
  lines : Vector OutputLine 8
  data : BitVec 8
  handed : Vector Summary 4
  flash : Nat
deriving DecidableEq, Repr

/-! ## Interrupts (Chapter 9) -/

/-- The channel causes, in the order of Table 39. -/
inductive ChannelCause
  | ready | loss | missed | torn
deriving DecidableEq, Repr

/-- The system causes, in the order of Table 39. -/
inductive SystemCause
  | alarmNew | escalated | groupTrip | chatter | contextsExhausted | timeQuality
deriving DecidableEq, Repr

/-- Routes of a system cause (R175). -/
inductive Route
  | nowhere | a | b | both
deriving DecidableEq, Repr

/-- A channel's cause flags and enables, one position per cause. -/
structure ChannelCauses where
  flags : Vector Bool 4
  enables : Vector Bool 4
deriving DecidableEq, Repr

/-- The Interrupt Unit (Chapter 9). -/
structure InterruptUnit where
  channel : PerHalf ChannelCauses
  system : Vector Bool 6
  routes : Vector Route 6
deriving DecidableEq, Repr

/-! ## Command slots and the table port (Chapter 10) -/

/-- Result codes (Table 40). -/
inductive ResultCode
  | none | done | noEffect | badCommand | badOperand | wrongState | notPermitted | tableInUse
deriving DecidableEq, Repr

/-- A command slot (R186). -/
structure Slot where
  arg0 : Word
  arg1 : Word
  cmd : Word
  result : Word
deriving DecidableEq, Repr

/-- A table port's address (R194). -/
structure PortAddress where
  select : Nat
  index : Nat
  offset : Nat
deriving DecidableEq, Repr

/-! ## Outcomes -/

/-- The part has no fault: every access and every event leaves it in a next state (R182, R187). Nobody raises one, so the
type has no constructor; that is safe. -/
inductive Fault
deriving DecidableEq, Repr

/-- Refusals of the model. -/
inductive Refusal
  /-- A command that has no meaning yet, raised by an arm of exec alone; safe, since the model stops. No arm raises it. -/
  | notModelled (mnemonic : String)
deriving DecidableEq, Repr

/-! ## The whole part -/

/-- The state of the part. `inReset`: RESETn is asserted (R183). `clockRunning`: CLK runs (R203; log 9). `lastRead`: the
value the last read strobe returned (the model's own field, log 8). `freeIndex`: how many free choices have been used
(the model's own field, log 21). `pending`: the commands waiting, first in first out (log 1). -/
structure State where
  lines : Vector LineState 32
  lineTable : Vector LineEntry 32
  profiles : Vector Profile 4
  time : TimeBase
  groups : Vector FirstOutGroup 8
  rules : Vector CorrRule 16
  exhausted : Bool
  alarms : AlarmList
  store : Store
  channels : PerHalf Channel
  outputs : OutputUnit
  irq : InterruptUnit
  slots : PerHalf Slot
  ports : PerHalf PortAddress
  tableStatus : Option ResultCode
  inReset : Bool
  clockRunning : Bool
  lastRead : Word
  freeIndex : Nat
  pending : List Instr
deriving DecidableEq, Repr

/-! ## Values after hardware reset -/

/-- A line after hardware reset, its physical input sampled at the level (R22). -/
def LineState.reset (level : Level) : LineState where
  physical := level
  effective := level
  cond := .disarmed
  qualified := none
  edge := none
  qualTimer := none
  window := none
  suppressed := 0
  lastChange := none
  releaseTimer := none
  injected := none

/-- A Line Table entry after hardware reset (R4). -/
def LineEntry.reset : LineEntry where
  normal := .low
  profile := 0
  snapshot := false
  ackMode := .off
  recordDepartures := false
  recordReturns := false
  cls := 0
  priority := 0
  group := none
  departAction := none
  returnAction := none

/-- A Profile Table entry after hardware reset (R3). -/
def Profile.reset : Profile where
  checkTime := 0
  chatterLimit := 0
  chatterWindow := 1000
  releaseTime := 1000

/-- The Time Base after hardware reset (R37). -/
def TimeBase.reset : TimeBase where
  elapsed := 0
  counter := 0
  quality := .free
  syncEnable := false
  tolerance := 100
  stepLimit := 1000
  lastPulse := none
  supervision := none
  hold := 0
  setHigh := 0
  latches := ⟨⟨0, 0, .free⟩, ⟨0, 0, .free⟩⟩

/-- A group in CLEAR with the window (R48, R58). -/
def FirstOutGroup.cleared (window : Word) : FirstOutGroup where
  window := window
  phase := .clear
  candidates := []
  timer := none
  firstOut := none
  coincident := 0
  candidateCount := 0
  consequents := 0
  discontinuity := false

/-- A rule after hardware reset (R127). -/
def CorrRule.reset : CorrRule where
  enabled := false
  stepCount := 2
  steps := Vector.replicate 4 ⟨0, .depart⟩
  ordered := true
  window := 1000
  grace := 0
  limit := 1
  recordLapses := false
  action := none
  matchCount := 0
  lapseCount := 0
  missedStarts := 0
  contexts := []

/-- The summaries of an empty list (R146): every lamp OFF and every horn false. -/
def noSummaries : Vector Summary 4 := Vector.replicate 4 ⟨.off, false⟩

/-- The Alarm List after hardware reset (R149). -/
def AlarmList.reset : AlarmList where
  entries := []
  escalation := Vector.replicate 4 ⟨0, none⟩
  ackRecording := true
  summaries := noSummaries

/-- The Event Store after hardware reset, before the RESTART record (R82). -/
def Store.reset : Store where
  records := []
  tail := 0
  next := 0
  policy := .hold
  loss := none

/-- A channel after hardware reset (R105). -/
def Channel.reset : Channel where
  enabled := false
  unread := 0
  offset := 0
  missed := 0
  torn := false
  emptyRead := false
  threshold := 1
  holdoff := 0
  holdoffTimer := none

/-- An output after hardware reset (R168). -/
def OutputLine.reset : OutputLine where
  mode := .direct
  drive := .highZ
  polarity := .activeHigh
  threshold := 0
  length := 100
  gap := 100
  retrigger := .restart
  phase := .idle
  timer := none
  queued := 0
  dropped := 0

/-- The Output Unit after hardware reset (R168). -/
def OutputUnit.reset : OutputUnit where
  lines := Vector.replicate 8 OutputLine.reset
  data := 0
  handed := noSummaries
  flash := 0

/-- A channel's causes with no flag and no enable set (R179). -/
def ChannelCauses.reset : ChannelCauses := ⟨Vector.replicate 4 false, Vector.replicate 4 false⟩

/-- The Interrupt Unit after hardware reset (R179). -/
def InterruptUnit.reset : InterruptUnit :=
  ⟨⟨ChannelCauses.reset, ChannelCauses.reset⟩, Vector.replicate 6 false, Vector.replicate 6 .nowhere⟩

/-- A command slot after hardware reset (R186). -/
def Slot.reset : Slot := ⟨0, 0, 0, 0⟩

/-- Every block at its hardware reset values with RESETn asserted (R183), the field inputs LOW (log 7), nothing waiting. -/
def State.held : State where
  lines := Vector.replicate 32 (LineState.reset .low)
  lineTable := Vector.replicate 32 LineEntry.reset
  profiles := Vector.replicate 4 Profile.reset
  time := TimeBase.reset
  groups := Vector.replicate 8 (FirstOutGroup.cleared 0)
  rules := Vector.replicate 16 CorrRule.reset
  exhausted := false
  alarms := AlarmList.reset
  store := Store.reset
  channels := ⟨Channel.reset, Channel.reset⟩
  outputs := OutputUnit.reset
  irq := InterruptUnit.reset
  slots := ⟨Slot.reset, Slot.reset⟩
  ports := ⟨⟨0, 0, 0⟩, ⟨0, 0, 0⟩⟩
  tableStatus := none
  inReset := true
  clockRunning := true
  lastRead := 0
  freeIndex := 0
  pending := []

/-- The RESTART record with cause RESET that the release of RESETn appends: number 0, timestamp 0, quality FREE (R193). -/
def Record.afterReset : Record := ⟨0, ⟨0, .free⟩, false, .restart .reset⟩

/-- The machine right after reset: RESETn released and the RESTART record appended (R82, R193; Table 38, note 1). -/
def State.reset : State :=
  { State.held with
    store := { Store.reset with records := [Record.afterReset], tail := 6, next := 1 }
    inReset := false }

end Sys2Proof.Machine
end

