-- ==== Sys2Proof/Machine/Operands.lean ====
section
/-! DEFINITION. Operands: bit fields of words, saturating arithmetic, tables and pairs, codes of named values (Tables 39 to 46). -/
namespace Sys2Proof

/-- The other level. -/
def Level.flip : Level → Level
  | .low => .high
  | .high => .low

/-- Level codes: 0 LOW, 1 HIGH (Table 39). -/
def Level.code : Level → Nat
  | .low => 0
  | .high => 1

/-- The level a bit names. -/
def Level.ofBit : Bool → Level
  | false => .low
  | true => .high

/-- Side codes: 1 control, 2 archive (Table 45). -/
def Half.code : Half → Nat
  | .control => 1
  | .archive => 2

end Sys2Proof

namespace Sys2Proof.Machine

/-! ## Tables and pairs -/

/-- The table with entry i replaced. -/
def put {α : Type} {n : Nat} (v : Vector α n) (i : Fin n) (x : α) : Vector α n := v.set i.val x i.isLt

/-- The part's half of a pair. -/
def PerHalf.get {α : Type} (p : PerHalf α) : Half → α
  | .control => p.control
  | .archive => p.archive

/-- A pair with one half replaced. -/
def PerHalf.set {α : Type} (p : PerHalf α) (h : Half) (x : α) : PerHalf α :=
  match h with
  | .control => ⟨x, p.archive⟩
  | .archive => ⟨p.control, x⟩

/-! ## Bit fields -/

/-- The field of n bits of a word from bit lo up. -/
def field (w : Word) (lo n : Nat) : Nat := w.toNat / 2 ^ lo % 2 ^ n

/-- One bit of a word. -/
def bit (w : Word) (i : Nat) : Bool := field w i 1 = 1

/-- The number a list of bits spells, least significant first. -/
def bitsToNat : List Bool → Nat
  | [] => 0
  | b :: bs => b.toNat + 2 * bitsToNat bs

/-- The mask whose position n is set when p says so of line Fn (R2, R201). -/
def maskOf (p : LineId → Bool) : LineMask := BitVec.ofNat 32 (bitsToNat ((List.finRange 32).map p))

/-- The two words of a mask: F0 to F15, then F16 to F31 (R201). -/
def maskWords (m : LineMask) : List Word := [m.extractLsb' 0 16, m.extractLsb' 16 16]

/-- The two words of a 32-bit count, high first (R201). -/
def countWords (c : BitVec 32) : List Word := [c.extractLsb' 16 16, c.extractLsb' 0 16]

/-- The three words of a 48-bit value, high first (R201). -/
def timeWords (t : BitVec 48) : List Word := [t.extractLsb' 32 16, t.extractLsb' 16 16, t.extractLsb' 0 16]

/-- A number as a word, its low 16 bits. -/
def toWord (n : Nat) : Word := BitVec.ofNat 16 n

/-! ## Counters -/

/-- A saturating 16-bit counter increased by 1 (00_scope.md, Conventions 4). -/
def satInc (w : Word) : Word := if w = 0xFFFF then w else w + 1

/-- A saturating 8-bit counter increased by 1. -/
def satInc8 (w : BitVec 8) : BitVec 8 := if w = 0xFF then w else w + 1

/-- The largest timestamp (R25). -/
def maxTimestamp : Nat := 0xFFFFFFFFFFFF

/-- A timestamp advanced by n microseconds, held at the largest value (R25, R110). -/
def satAdvance (t : Timestamp) (n : Nat) : Timestamp := BitVec.ofNat 48 (min maxTimestamp (t.toNat + n))

/-! ## Codes -/

/-- Quality codes (Table 39). -/
def Quality.code : Quality → Nat
  | .free => 0
  | .acquiring => 1
  | .locked => 2
  | .holdover => 3

/-- Conditioning state codes (Table 43, LINE 2). -/
def Cond.code : Cond → Nat
  | .disarmed => 0
  | .settling => 1
  | .normal => 2
  | .departing => 3
  | .offnormal => 4
  | .returning => 5
  | .chatter => 6

/-- Direction codes (R201). -/
def Direction.code : Direction → Nat
  | .depart => 0
  | .giveBack => 1

/-- The direction a bit names. -/
def Direction.ofBit : Bool → Direction
  | false => .depart
  | true => .giveBack

/-- Ack mode codes (Table 43). -/
def AckMode.code : AckMode → Nat
  | .off => 0
  | .depart => 1
  | .both => 2

/-- The ack mode a code names; 3 names none. -/
def AckMode.ofCode : Nat → Option AckMode
  | 0 => some .off
  | 1 => some .depart
  | 2 => some .both
  | _ => none

/-- A group or an output in four bits: its number, or 15 for none (Tables 43, 44 and 46). -/
def optionCode (o : Option (Fin 8)) : Nat :=
  match o with
  | none => 15
  | some x => x.val

/-- What four bits name: 0 to 7 a number, 15 none, and 8 to 14 nothing (refused). -/
def optionOfCode (n : Nat) : Option (Option (Fin 8)) :=
  if h : n < 8 then some (some ⟨n, h⟩) else if n = 15 then some none else none

/-- Group state codes (Table 43, GROUP 1). -/
def GroupPhase.code : GroupPhase → Nat
  | .clear => 0
  | .resolving => 1
  | .tripped => 2

/-- Alarm entry state codes (Table 43, LINE 4). -/
def AlarmPhase.code : AlarmPhase → Nat
  | .alert => 0
  | .acked => 1
  | .returned => 2

/-- Lamp pattern codes (Table 39). -/
def Lamp.code : Lamp → Nat
  | .off => 0
  | .steady => 1
  | .slow => 2
  | .fast => 3

/-- LAPSE reason codes (Table 46). -/
def LapseReason.code : LapseReason → Nat
  | .window => 0
  | .disabled => 1
  | .timeStep => 2

/-- ACK result codes (Table 46). -/
def AckResult.code : AckResult → Nat
  | .acked => 0
  | .removed => 2

/-- TIME subkind codes (Table 46). -/
def TimeKind.code : TimeKind → Nat
  | .set => 0
  | .step => 1
  | .quality => 2

/-- RESTART cause codes (Table 46). -/
def RestartCause.code : RestartCause → Nat
  | .reset => 0
  | .command => 1

/-- Output mode codes (Table 44). -/
def OutputMode.code : OutputMode → Nat
  | .direct => 0
  | .lamp => 1
  | .horn => 2
  | .pulse => 3

/-- The output mode a two-bit code names. -/
def OutputMode.ofCode : Nat → OutputMode
  | 0 => .direct
  | 1 => .lamp
  | 2 => .horn
  | _ => .pulse

/-- Drive codes (Table 44). -/
def Drive.code : Drive → Nat
  | .pushPull => 0
  | .openDrain => 1
  | .highZ => 2

/-- The drive a code names; 3 names none. -/
def Drive.ofCode : Nat → Option Drive
  | 0 => some .pushPull
  | 1 => some .openDrain
  | 2 => some .highZ
  | _ => none

/-- Polarity codes (Table 44). -/
def Polarity.code : Polarity → Nat
  | .activeHigh => 0
  | .activeLow => 1

/-- The polarity a bit names. -/
def Polarity.ofBit : Bool → Polarity
  | false => .activeHigh
  | true => .activeLow

/-- Retrigger policy codes (Table 44). -/
def Retrigger.code : Retrigger → Nat
  | .restart => 0
  | .queue => 1

/-- The retrigger policy a bit names. -/
def Retrigger.ofBit : Bool → Retrigger
  | false => .restart
  | true => .queue

/-- Pulse state codes (Table 44). -/
def PulsePhase.code : PulsePhase → Nat
  | .idle => 0
  | .pulsing => 1
  | .gap => 2

/-- Route codes (Table 39). -/
def Route.code : Route → Nat
  | .nowhere => 0
  | .a => 1
  | .b => 2
  | .both => 3

/-- The route a two-bit code names. -/
def Route.ofCode : Nat → Route
  | 0 => .nowhere
  | 1 => .a
  | 2 => .b
  | _ => .both

/-- Policy codes (Table 39). -/
def Policy.code : Policy → Nat
  | .hold => 0
  | .wrap => 1

/-- Result codes (Table 40). -/
def ResultCode.code : ResultCode → Nat
  | .none => 0
  | .done => 1
  | .noEffect => 2
  | .badCommand => 3
  | .badOperand => 4
  | .wrongState => 5
  | .notPermitted => 6
  | .tableInUse => 7

/-- The RESULT word: the result code low, the low eight bits of the value written to CMD high (Table 39, R186). -/
def resultWord (r : ResultCode) (cmd : Word) : Word := toWord (r.code + 256 * (cmd.toNat % 256))

/-! ## Choosing an order the manual leaves open -/

/-- A list in the order that the choices give, one item picked at a time; a list of one item needs no choice. -/
def arrange {α : Type} (choose : Nat → Nat) : Nat → List α → List α
  | 0, l => l
  | _ + 1, [] => []
  | _ + 1, [x] => [x]
  | fuel + 1, x :: y :: l =>
    let whole := x :: y :: l
    let k := choose fuel % whole.length
    (whole.drop k).take 1 ++ arrange choose fuel (whole.take k ++ whole.drop (k + 1))

/-- Two sequences interleaved as the choices give, each keeping its own order; with one of them empty no choice is needed. -/
def interleave {α : Type} (choose : Nat → Bool) : Nat → List α → List α → List α
  | 0, xs, ys => xs ++ ys
  | fuel + 1, x :: xs, y :: ys =>
    if choose fuel then x :: interleave choose fuel xs (y :: ys) else y :: interleave choose fuel (x :: xs) ys
  | _ + 1, xs, ys => xs ++ ys

end Sys2Proof.Machine
end

