-- ==== Sys2Proof/Machine/Flags.lean ====
section
/-! DEFINITION. Flags: cause flags, enables, routes and the two request outputs (Chapter 9). -/
namespace Sys2Proof.Machine

/-- The position of a channel cause in CHANNEL CAUSES (Table 39). -/
def ChannelCause.idx : ChannelCause → Fin 4
  | .ready => 0
  | .loss => 1
  | .missed => 2
  | .torn => 3

/-- The position of a system cause in SYSTEM CAUSES (Table 39). -/
def SystemCause.idx : SystemCause → Fin 6
  | .alarmNew => 0
  | .escalated => 1
  | .groupTrip => 2
  | .chatter => 3
  | .contextsExhausted => 4
  | .timeQuality => 5

/-- The Interrupt Unit with a channel cause flag given a value. -/
def InterruptUnit.setChannelFlag (u : InterruptUnit) (h : Half) (c : ChannelCause) (v : Bool) : InterruptUnit :=
  { u with channel := u.channel.set h { u.channel.get h with flags := put (u.channel.get h).flags c.idx v } }

/-- A system cause is set by its event, enabled or routed or not (R170). -/
def raise (c : SystemCause) (s : State) : State :=
  { s with irq := { s.irq with system := put s.irq.system c.idx true } }

/-- A channel cause is set by its event (R170). -/
def raiseChannel (h : Half) (c : ChannelCause) (s : State) : State :=
  { s with irq := s.irq.setChannelFlag h c true }

/-- Whether a system cause's flag stands set. -/
def State.causeSet (s : State) (c : SystemCause) : Bool := s.irq.system.get c.idx

/-- Whether a channel cause's flag stands set. -/
def State.channelCauseSet (s : State) (h : Half) (c : ChannelCause) : Bool := (s.irq.channel.get h).flags.get c.idx

/-- Whether a route names a half's request output (R177): A or BOTH for IRQA, B or BOTH for IRQB. -/
def Route.reaches (r : Route) : Half → Bool
  | .control => r = .a ∨ r = .both
  | .archive => r = .b ∨ r = .both

/-- Whether a half's write of 1 clears a system cause with this route (the table of R173). -/
def Route.clearableBy (r : Route) : Half → Bool
  | .control => true
  | .archive => r = .b ∨ r = .both

/-- Whether a half's request output is asserted (R177). -/
def InterruptUnit.asserted (u : InterruptUnit) (h : Half) : Bool :=
  (List.finRange 4).any (fun i => (u.channel.get h).flags.get i && (u.channel.get h).enables.get i) ||
  (List.finRange 6).any (fun i => u.system.get i && (u.routes.get i).reaches h)

/-- Whether IRQA, for the control half, or IRQB, for the archive half, is asserted (R177); its pin is `State.requestPin`. -/
def State.irqAsserted (s : State) (h : Half) : Bool := s.irq.asserted h

/-- Every cause flag of both channels and of the system cleared, enables and routes kept (R180). -/
def InterruptUnit.clearFlags (u : InterruptUnit) : InterruptUnit where
  channel := ⟨{ u.channel.control with flags := Vector.replicate 4 false },
              { u.channel.archive with flags := Vector.replicate 4 false }⟩
  system := Vector.replicate 6 false
  routes := u.routes

/-- The system flags after a write of ones through a half (R173): a position at 1 clears its flag where the route lets
this half clear it. -/
def InterruptUnit.clearSystem (u : InterruptUnit) (h : Half) (w : Word) : InterruptUnit :=
  { u with system := Vector.ofFn fun i => u.system.get i && !(bit w i.val && (u.routes.get i).clearableBy h) }

/-- A channel's flags and enables after a write of CHANNEL CAUSES: ones in bits 0 to 3 clear, bits 8 to 11 are the
enables (R172, R173, Table 39). -/
def ChannelCauses.written (c : ChannelCauses) (w : Word) : ChannelCauses where
  flags := Vector.ofFn fun i => c.flags.get i && !(bit w i.val)
  enables := Vector.ofFn fun i => bit w (8 + i.val)

/-- The CHANNEL CAUSES word of a half (Table 39). -/
def ChannelCauses.word (c : ChannelCauses) : Word := toWord (bitsToNat c.flags.toList + 256 * bitsToNat c.enables.toList)

/-- The SYSTEM CAUSES word as a half reads it: the six flags, and its own request output in bit 15 (Table 39). -/
def InterruptUnit.systemWord (u : InterruptUnit) (h : Half) : Word :=
  toWord (bitsToNat u.system.toList + 32768 * (u.asserted h).toNat)

/-- The SYSTEM ROUTES word: two bits per cause (Table 39). -/
def InterruptUnit.routesWord (u : InterruptUnit) : Word :=
  toWord (((List.finRange 6).map fun i => (u.routes.get i).code * 4 ^ i.val).sum)

end Sys2Proof.Machine
end

