-- ==== Sys2Proof/Machine/Records.lean ====
section
/-! DEFINITION. Records: the words of a record as a channel delivers them (section 10.6), and its length (R62). -/
namespace Sys2Proof.Machine

/-- The references present, lowest step position first (R65). -/
def presentRefs (refs : Vector (Option Word) 4) : List Word := refs.toList.filterMap id

/-- Four presence flags as bits 12 to 15 (Table 45), position 1 lowest. -/
def refFlags (refs : Vector (Option Word) 4) : Nat := bitsToNat (refs.toList.map Option.isSome)

/-- Kind codes (Table 46). -/
def Body.kind : Body → Nat
  | .line .. => 1
  | .armed .. => 2
  | .disarmed .. => 3
  | .chatterOn .. => 4
  | .chatterOff .. => 5
  | .groupTrip .. => 6
  | .groupClear .. => 7
  | .matched .. => 8
  | .lapsed .. => 9
  | .escalate .. => 10
  | .ack .. => 11
  | .silence .. => 12
  | .time .. => 13
  | .loss .. => 14
  | .snapshot .. => 15
  | .mark .. => 16
  | .restart .. => 17

/-- Bits 12 to 15 of the first header word: the presence flags on the kinds with optional parts, the side on the others
(Table 45; sides as Table 20 gives them). -/
def Body.topBits : Body → Nat
  | .line _ _ _ _ _ mask => mask.isSome.toNat
  | .groupTrip _ _ _ _ _ ref => ref.isSome.toNat
  | .matched _ _ refs => refFlags refs
  | .lapsed _ _ _ refs => refFlags refs
  | .disarmed .. => Half.control.code
  | .groupClear .. => Half.control.code
  | .snapshot .. => Half.control.code
  | .ack _ _ _ side => side.code
  | .silence _ side => side.code
  | .mark _ side => side.code
  | .restart .command => Half.control.code
  | .restart .reset => 0
  | .armed .. => 0
  | .chatterOn .. => 0
  | .chatterOff .. => 0
  | .escalate .. => 0
  | .time .. => 0
  | .loss .. => 0

/-- The body's words, from word 5 of the record (Table 46). -/
def Body.words : Body → List Word
  | .line l d c p g mask =>
    toWord (l.val + 32 * d.code + 64 * p.val + 256 * c.toNat + 4096 * optionCode g) ::
      (match mask with
       | none => []
       | some m => maskWords m)
  | .armed l v => [toWord (l.val + 32 * v.code)]
  | .disarmed l => [toWord l.val]
  | .chatterOn l v => [toWord (l.val + 32 * v.code)]
  | .chatterOff l v n => [toWord (l.val + 32 * v.code), n]
  | .groupTrip g d f n m ref => toWord (g.val + 8 * d.toNat + 16 * f.val + 512 * (n % 64)) :: (maskWords m ++ ref.toList)
  | .groupClear g n => [toWord g.val, n]
  | .matched r n refs => toWord (r.val + 16 * (n % 8)) :: presentRefs refs
  | .lapsed r reason steps refs =>
    toWord (r.val + 16 * reason.code + 256 * bitsToNat steps.toList) :: presentRefs refs
  | .escalate l p => [toWord (l.val + 32 * p.val)]
  | .ack l r tag _ => [toWord (l.val + 32 * r.code), tag]
  | .silence n _ => [toWord (n % 64)]
  | .time k old new step => toWord (k.code + 16 * old.code + 64 * new.code) :: timeWords step
  | .loss first count => first :: countWords count
  | .snapshot e q a c => maskWords e ++ maskWords q ++ maskWords a ++ maskWords c
  | .mark note _ => [note]
  | .restart cause => [toWord cause.code]

/-- The length of a record with this body: the five header words and the body (R62). -/
def Body.len (b : Body) : Nat := 5 + b.words.length

/-- The length of a record (R62). -/
def Record.len (r : Record) : Nat := r.body.len

/-- The first header word (Table 45). -/
def Record.head (r : Record) : Word :=
  toWord (r.body.kind + 32 * (r.len - 5) + 512 * r.test.toNat + 1024 * r.stamp.quality.code + 4096 * r.body.topBits)

/-- The words of a record, header first (R200). -/
def Record.words (r : Record) : List Word := r.head :: r.number :: (timeWords r.stamp.time ++ r.body.words)

end Sys2Proof.Machine
end

