-- ==== Sys2Proof/Machine/Ops.lean ====
section
/-! DEFINITION. Ops: the named operations every block uses: the present stamp and timers, the line views, the Event Store's
append, drop, reclaim and clear (Chapter 4), and what a channel does with the store's notices (Chapter 5). -/
namespace Sys2Proof.Machine

/-! ## The present moment -/

/-- The counter's value and quality at this moment (R25). -/
def State.now (s : State) : Stamp := ⟨s.time.counter, s.time.quality⟩

/-- The elapsed time a number of microseconds from now: when a timer of that length expires (R35). -/
def State.inMicros (s : State) (n : Nat) : Nat := s.time.elapsed + n

/-- The elapsed time a number of milliseconds from now. -/
def State.inMillis (s : State) (n : Nat) : Nat := s.time.elapsed + 1000 * n

/-- Whether a timer is running and its moment has come. -/
def State.timerDue (s : State) (t : Option Nat) : Bool :=
  match t with
  | none => false
  | some at_ => at_ ≤ s.time.elapsed

/-- What a timer's expiry, a SYNC edge or a tick makes of a state: nothing while RESETn is asserted or CLK is stopped
(R183, R203). -/
def timed (s t : State) : State := if s.inReset || !s.clockRunning then s else t

/-! ## Replacing one thing -/

/-- The state with one line's conditioning state replaced. -/
def State.setLine (s : State) (l : LineId) (x : LineState) : State := { s with lines := put s.lines l x }

/-- The state with one group replaced. -/
def State.setGroup (s : State) (g : GroupId) (x : FirstOutGroup) : State := { s with groups := put s.groups g x }

/-- The state with one rule replaced. -/
def State.setRule (s : State) (r : RuleId) (x : CorrRule) : State := { s with rules := put s.rules r x }

/-- The state with one output replaced. -/
def State.setOutput (s : State) (q : OutputId) (x : OutputLine) : State :=
  { s with outputs := { s.outputs with lines := put s.outputs.lines q x } }

/-- The state with one channel replaced. -/
def State.setChannel (s : State) (h : Half) (x : Channel) : State := { s with channels := s.channels.set h x }

/-- The state with one command slot replaced. -/
def State.setSlot (s : State) (h : Half) (x : Slot) : State := { s with slots := s.slots.set h x }

/-! ## Line views (R2) -/

/-- Whether a line is armed: any state but DISARMED. -/
def LineState.armed (x : LineState) : Bool := x.cond ≠ .disarmed

/-- The effective level of a line: the injected level while the test flag is set, else the physical level (R1). -/
def LineState.presentLevel (x : LineState) : Level := x.injected.getD x.physical

/-- Effective level mask (R2). -/
def State.effectiveMask (s : State) : LineMask := maskOf fun l => (s.lines.get l).effective = .high

/-- Whether a line is armed and qualified away from its normal level (R2). -/
def State.lineOffnormal (s : State) (l : LineId) : Bool :=
  (s.lines.get l).armed && (s.lines.get l).qualified = some (s.lineTable.get l).normal.flip

/-- Qualified offnormal mask (R2). -/
def State.offnormalMask (s : State) : LineMask := maskOf s.lineOffnormal

/-- Armed mask (R2). -/
def State.armedMask (s : State) : LineMask := maskOf fun l => (s.lines.get l).armed

/-- Chatter mask (R2). -/
def State.chatterMask (s : State) : LineMask := maskOf fun l => (s.lines.get l).cond = .chatter

/-! ## Space of the store (R60, R68) -/

/-- The words held: the sum of the lengths of the records (R60). -/
def wordsOf (rs : List Record) : Nat := (rs.map Record.len).sum

/-- Free words (R60). -/
def Store.free (st : Store) : Nat := 4096 - wordsOf st.records

/-- The free words an append of this length asks for (R68). -/
def Store.need (st : Store) (length : Nat) : Nat := length + (if st.loss.isSome then 13 else 5)

/-- The fewest records, counted from the oldest, whose removal meets the need (R74). -/
def dropsNeeded (need : Nat) : Nat → List Record → Nat
  | _, [] => 0
  | free, r :: rs => if need ≤ free then 0 else 1 + dropsNeeded need (free + r.len) rs

/-! ## A channel's place in the store (R86) -/

/-- The place in store order of the channel's cursor, 0 the oldest record, or none at end (R86). -/
def Channel.place (c : Channel) (held : Nat) : Option Nat := if c.unread = 0 then none else some (held - c.unread)

/-- The record at the channel's cursor. -/
def State.cursorRecord (s : State) (h : Half) : Option Record :=
  match (s.channels.get h).place s.store.records.length with
  | none => none
  | some i => s.store.records[i]?

/-- The place of the record a channel pins: enabled, its cursor on the record, its offset above 0 (R73). -/
def Channel.pinned (c : Channel) (held : Nat) : Option Nat :=
  if c.enabled && 0 < c.offset then c.place held else none

/-- Whether a channel pins one of the n oldest records. -/
def Channel.pinsWithin (c : Channel) (held n : Nat) : Bool :=
  match c.pinned held with
  | none => false
  | some i => i < n

/-- The READY rules of section 5.6, after a rise of a channel's unread count from `old`: the holdoff timer starts when the
count has risen from 0 (R102), and READY is set when it has reached the threshold (R101). -/
def readyRules (h : Half) (old : Nat) (s : State) : State :=
  let c := s.channels.get h
  let started : State :=
    if old = 0 ∧ 0 < c.unread ∧ c.holdoff ≠ 0 then
      s.setChannel h { c with holdoffTimer := some (s.inMillis c.holdoff.toNat) }
    else s
  if old < c.threshold.toNat ∧ c.threshold.toNat ≤ c.unread then raiseChannel h .ready started else started

/-! ## Notices from the store to a channel -/

/-- A channel takes an append notice (R87). -/
def appendNotice (h : Half) (s : State) : State :=
  let c := s.channels.get h
  if c.enabled then
    readyRules h c.unread
      (s.setChannel h { c with unread := c.unread + 1, offset := if c.unread = 0 then 0 else c.offset })
  else s

/-- A channel takes a drop notice for the oldest record, sent while that record still stands first: a cursor on it moves to
the record that followed, and the drop counts as missed (R88). A count that returns to 0 stops the holdoff timer (R102). -/
def dropNotice (h : Half) (s : State) : State :=
  let c := s.channels.get h
  if c.enabled ∧ c.unread ≠ 0 ∧ c.unread = s.store.records.length then
    raiseChannel h .missed
      (s.setChannel h { c with
        unread := c.unread - 1
        offset := 0
        missed := satInc c.missed
        holdoffTimer := if c.unread = 1 then none else c.holdoffTimer })
  else s

/-- A channel takes a loss notice: an enabled one sets its LOSS cause and nothing else (R89). -/
def lossNotice (h : Half) (s : State) : State :=
  if (s.channels.get h).enabled then raiseChannel h .loss s else s

/-- A channel takes a clear notice; `cause` says whether a torn channel sets its TORN cause: at STORE CLEAR it does (R99),
at RESTART it does not (R106). -/
def clearNotice (h : Half) (cause : Bool) (s : State) : State :=
  let c := s.channels.get h
  let tears : Bool := c.enabled && 0 < c.offset
  let cleared := s.setChannel h { c with unread := 0, offset := 0, holdoffTimer := none, torn := c.torn || tears }
  if tears && cause then raiseChannel h .torn cleared else cleared

/-! ## The store (Chapter 4) -/

/-- A record is written: it takes the Next Number, stands at the newest end, and both channels take its append notice
(R60, R66, R87). -/
def writeRecord (stamp : Stamp) (test : Bool) (body : Body) (s : State) : State :=
  appendNotice .archive (appendNotice .control
    { s with store := { s.store with
        records := s.store.records ++ [⟨s.store.next, stamp, test, body⟩]
        tail := s.store.tail + BitVec.ofNat 12 body.len
        next := s.store.next + 1 } })

/-- The LOSS record that closes the pending loss, where there is one (R71). -/
def writeLoss (s : State) : State :=
  match s.store.loss with
  | none => s
  | some p => writeRecord p.stamp false (.loss p.first p.count) { s with store := { s.store with loss := none } }

/-- The oldest record is dropped, both channels told (R75). -/
def dropOldest (s : State) : State :=
  let told := dropNotice .archive (dropNotice .control s)
  { told with store := { told.store with records := told.store.records.drop 1 } }

/-- The n oldest records are dropped, one after another (R74). -/
def dropRecords : Nat → State → State
  | 0, s => s
  | n + 1, s => dropRecords n (dropOldest s)

/-- An accepted request: the LOSS record first if a loss is pending, then the record; its number is returned (R66). -/
def acceptAppend (stamp : Stamp) (test : Bool) (body : Body) (s : State) : Word × State :=
  let s1 := writeLoss s
  (s1.store.next, writeRecord stamp test body s1)

/-- A refused request takes its number and opens or extends the pending loss (R70). -/
def refuseAppend (stamp : Stamp) (s : State) : Word × State :=
  let number := s.store.next
  match s.store.loss with
  | some p =>
    (number, { s with store := { s.store with next := number + 1, loss := some { p with count := p.count + 1 } } })
  | none =>
    (number, lossNotice .archive (lossNotice .control
      { s with store := { s.store with next := number + 1, loss := some ⟨number, 1, stamp⟩ } }))

/-- How many records the store drops for a request under WRAP (R74). -/
def State.dropsFor (s : State) (length : Nat) : Nat := dropsNeeded (s.store.need length) s.store.free s.store.records

/-- Whether one of the n oldest records is pinned (R73, R74). -/
def State.pinnedWithin (s : State) (n : Nat) : Bool :=
  s.channels.control.pinsWithin s.store.records.length n || s.channels.archive.pinsWithin s.store.records.length n

/-- The store takes an append request whole (R66, R69, R74), and returns the number given. -/
def append (stamp : Stamp) (test : Bool) (body : Body) (s : State) : Word × State :=
  if s.store.need body.len ≤ s.store.free then acceptAppend stamp test body s
  else
    match s.store.policy with
    | .hold => refuseAppend stamp s
    | .wrap =>
      if s.pinnedWithin (s.dropsFor body.len) then refuseAppend stamp s
      else acceptAppend stamp test body (dropRecords (s.dropsFor body.len) s)

/-- An append whose number nobody keeps. -/
def report (stamp : Stamp) (test : Bool) (body : Body) (s : State) : State := (append stamp test body s).2

/-- How many of the oldest records every enabled channel has consumed, none with no channel enabled (R76, R78). -/
def State.reclaimable (s : State) : Nat :=
  let held := s.store.records.length
  let a := s.channels.control
  let b := s.channels.archive
  match a.enabled, b.enabled with
  | false, false => 0
  | true, false => held - a.unread
  | false, true => held - b.unread
  | true, true => held - max a.unread b.unread

/-- The store reclaims (R77): it removes the consumed records from the oldest end, and writes a pending LOSS record when it
has removed one and 13 words are free. -/
def reclaim (s : State) : State :=
  let n := s.reclaimable
  let removed : State := { s with store := { s.store with records := s.store.records.drop n } }
  if 0 < n ∧ 13 ≤ removed.store.free then writeLoss removed else removed

/-- Every record and the pending loss are discarded, and both channels take the clear notice (R80, R83). -/
def discardRecords (cause : Bool) (s : State) : State :=
  clearNotice .archive cause (clearNotice .control cause
    { s with store := { s.store with records := [], loss := none } })

/-- A channel consumes the record at its cursor, and its consumption notice lets the store reclaim (R90, R91, R97). -/
def consume (h : Half) (s : State) : State :=
  let c := s.channels.get h
  reclaim (s.setChannel h { c with
    unread := c.unread - 1
    offset := 0
    holdoffTimer := if c.unread = 1 then none else c.holdoffTimer })

end Sys2Proof.Machine
end

