-- ==== Sys2Proof/Machine/Slots.lean ====
section
/-! DEFINITION. Slots: how accesses and commands are taken (sections 10.1 and 10.3): nothing under reset, the checks of R187
in order, and RESULT. -/
namespace Sys2Proof.Machine

/-- A write or a command: while RESETn is asserted it is ignored (R183), else the part stands in t after it. -/
def live (s t : State) : State := if s.inReset then s else t

/-- A read that returns w and leaves the part in t; while RESETn is asserted it returns 0000h and changes nothing else
(R183, R185). -/
def readStrobe (s : State) (w : Word) (t : State) : State :=
  if s.inReset then { s with lastRead := 0 } else { t with lastRead := w }

/-- A slot after a command: CMD holds the code written, RESULT the outcome, the ARG words stand (R186). -/
def Slot.answered (slot : Slot) (code result : Word) : Slot := { slot with cmd := code, result := result }

/-- A command taken at a write of its code to CMD (R186): CMD holds the code, the block acts on the operands in the slot, and
RESULT holds the outcome. -/
def takeCommand (h : Half) (code : Word) (act : Slot → State → ResultCode × State) (s : State) : State :=
  let slot := s.slots.get h
  let r := act slot s
  r.2.setSlot h (slot.answered code (resultWord r.1 code))

/-- A control-half command from the archive half is NOT PERMITTED (R187, step 2). -/
def controlOnly (h : Half) (s : State) (r : ResultCode × State) : ResultCode × State :=
  match h with
  | .control => r
  | .archive => (.notPermitted, s)

/-- An operand compared as a whole word against a range 0 to n - 1 (R187, step 3). -/
def operand (n : Nat) (w : Word) : Option (Fin n) := if h : w.toNat < n then some ⟨w.toNat, h⟩ else none

/-- The block acts on an operand in range; one out of range is a BAD OPERAND (R187, step 3). -/
def withOperand {α : Type} (o : Option α) (s : State) (act : α → ResultCode × State) : ResultCode × State :=
  match o with
  | none => (.badOperand, s)
  | some x => act x

end Sys2Proof.Machine
end

