-- ==== Sys2Proof/Machine/Channels.lean ====
section
/-! DEFINITION. Channels: reading, the channel commands, READY coalescing and the cause words of a half (Chapters 5 and 9). -/
namespace Sys2Proof.Machine

/-! ## Reading (section 5.3) -/

/-- The record a read of the data port would deliver from: the cursor's, on an enabled channel (R91, R92). -/
def State.deliverable (s : State) (h : Half) : Option Record :=
  if (s.channels.get h).enabled then s.cursorRecord h else none

/-- The word a read of CHANNEL DATA returns: the word at the offset, or 0000h with no record (R91, R92). -/
def State.channelDataWord (s : State) (h : Half) : Word :=
  match s.deliverable h with
  | none => 0
  | some r => r.words.getD (s.channels.get h).offset 0

/-- What a read of CHANNEL DATA does (R91, R92): the offset advances, the last word consumes the record, and a read that
finds no record sets EMPTY-READ. -/
def readChannelData (h : Half) (s : State) : State :=
  let c := s.channels.get h
  match s.deliverable h with
  | none => s.setChannel h { c with emptyRead := true }
  | some r => if c.offset + 1 < r.len then s.setChannel h { c with offset := c.offset + 1 } else consume h s

/-- The CHANNEL STATUS word (Table 39). -/
def Channel.statusWord (c : Channel) : Word :=
  toWord (c.enabled.toNat + 2 * (decide (c.unread = 0)).toNat + 4 * c.holdoffTimer.isSome.toNat + 8 * c.torn.toNat +
    16 * c.emptyRead.toNat + 256 * (c.offset % 16))

/-- The CHANNEL CURSOR word: the number of the cursor's record, 0 at end (Table 38, note 2). -/
def State.cursorWord (s : State) (h : Half) : Word :=
  match s.cursorRecord h with
  | none => 0
  | some r => r.number

/-- A read of CHANNEL STATUS clears the TORN and EMPTY-READ status flags (R104). -/
def Channel.statusTaken (c : Channel) : Channel := { c with torn := false, emptyRead := false }

/-! ## Channel commands (section 5.4) -/

/-- CHANNEL ENABLE FROM OLDEST (R94). -/
def enableFromOldest (h : Half) (s : State) : ResultCode × State :=
  let c := s.channels.get h
  if c.enabled then (.wrongState, s)
  else
    (.done, readyRules h 0 (s.setChannel h { c with
      enabled := true, unread := s.store.records.length, offset := 0, missed := 0 }))

/-- CHANNEL ENABLE FROM NEXT (R95). -/
def enableFromNext (h : Half) (s : State) : ResultCode × State :=
  let c := s.channels.get h
  if c.enabled then (.wrongState, s)
  else (.done, reclaim (s.setChannel h { c with enabled := true, unread := 0, offset := 0, missed := 0, holdoffTimer := none }))

/-- CHANNEL DISABLE (R96). -/
def disableChannel (h : Half) (s : State) : ResultCode × State :=
  let c := s.channels.get h
  if c.enabled then
    (.done, reclaim (s.setChannel h { c with enabled := false, unread := 0, offset := 0, holdoffTimer := none }))
  else (.noEffect, s)

/-- CHANNEL SKIP (R97). -/
def skipRecord (h : Half) (s : State) : ResultCode × State :=
  let c := s.channels.get h
  if !c.enabled then (.wrongState, s)
  else if c.unread = 0 then (.noEffect, s)
  else (.done, consume h s)

/-- CHANNEL REREAD (R98). -/
def rereadRecord (h : Half) (s : State) : ResultCode × State :=
  let c := s.channels.get h
  if !c.enabled then (.wrongState, s)
  else if c.unread = 0 ∨ c.offset = 0 then (.noEffect, s)
  else (.done, s.setChannel h { c with offset := 0 })

/-- A write of 30h to CMD (R94). -/
def cmdEnableFromOldest (h : Half) : State → State := takeCommand h 0x30 fun _ s => enableFromOldest h s

/-- A write of 31h to CMD (R95). -/
def cmdEnableFromNext (h : Half) : State → State := takeCommand h 0x31 fun _ s => enableFromNext h s

/-- A write of 32h to CMD (R96). -/
def cmdDisableChannel (h : Half) : State → State := takeCommand h 0x32 fun _ s => disableChannel h s

/-- A write of 33h to CMD (R97). -/
def cmdSkip (h : Half) : State → State := takeCommand h 0x33 fun _ s => skipRecord h s

/-- A write of 34h to CMD (R98). -/
def cmdReread (h : Half) : State → State := takeCommand h 0x34 fun _ s => rereadRecord h s

/-! ## READY configuration (R100) -/

/-- A write of READY THRESHOLD: 1 to 255 is taken, and sets READY when it comes down to or below the unread count. -/
def writeThreshold (h : Half) (v : Word) (s : State) : State :=
  let c := s.channels.get h
  if v.toNat = 0 ∨ 255 < v.toNat then s
  else
    let written := s.setChannel h { c with threshold := v }
    if v.toNat ≤ c.unread ∧ c.unread < c.threshold.toNat then raiseChannel h .ready written else written

/-- A write of READY HOLDOFF: a running timer keeps its length, and 0 stops it. -/
def writeHoldoff (h : Half) (v : Word) (s : State) : State :=
  let c := s.channels.get h
  s.setChannel h { c with holdoff := v, holdoffTimer := if v = 0 then none else c.holdoffTimer }

/-! ## Cause words (R172 to R175) -/

/-- The channel is told of a clear of its READY (R103). -/
def readyCleared (h : Half) (s : State) : State :=
  let c := s.channels.get h
  if c.unread = 0 then s
  else if c.holdoff ≠ 0 then s.setChannel h { c with holdoffTimer := some (s.inMillis c.holdoff.toNat) }
  else if c.threshold.toNat ≤ c.unread then raiseChannel h .ready s
  else s

/-- A write of CHANNEL CAUSES (R172 to R174). -/
def writeChannelCauses (h : Half) (v : Word) (s : State) : State :=
  let written : State :=
    { s with irq := { s.irq with channel := s.irq.channel.set h ((s.irq.channel.get h).written v) } }
  if s.channelCauseSet h .ready && bit v 0 then readyCleared h written else written

/-- A write of SYSTEM CAUSES through a half (R173). -/
def writeSystemCauses (h : Half) (v : Word) (s : State) : State := { s with irq := s.irq.clearSystem h v }

/-- A write of SYSTEM ROUTES (R175). -/
def writeSystemRoutes (v : Word) (s : State) : State :=
  { s with irq := { s.irq with routes := Vector.ofFn fun i => Route.ofCode (field v (2 * i.val) 2) } }

/-! ## Meanings -/

/-- CHANNEL_DATA_READ (R91, R92). -/
def execChannelDataRead (h : Half) (s : State) : Host.Outcome State Fault Refusal :=
  .next (readStrobe s (s.channelDataWord h) (readChannelData h s))

/-- CHANNEL_STATUS_READ (R104). -/
def execChannelStatusRead (h : Half) (s : State) : Host.Outcome State Fault Refusal :=
  .next (readStrobe s (s.channels.get h).statusWord (s.setChannel h (s.channels.get h).statusTaken))

/-- HOLDOFF_TIMER_EXPIRY (R102); with no holdoff timer running there is no expiry (log 3). -/
def execHoldoffTimerExpiry (h : Half) (s : State) : Host.Outcome State Fault Refusal :=
  let c := s.channels.get h
  .next (timed s
    (if c.holdoffTimer.isSome then raiseChannel h .ready (s.setChannel h { c with holdoffTimer := none }) else s))

/-- READY_THRESHOLD_WRITE (R100). -/
def execReadyThresholdWrite (h : Half) (v : Word) (s : State) : Host.Outcome State Fault Refusal :=
  .next (live s (writeThreshold h v s))

/-- READY_HOLDOFF_WRITE (R100). -/
def execReadyHoldoffWrite (h : Half) (v : Word) (s : State) : Host.Outcome State Fault Refusal :=
  .next (live s (writeHoldoff h v s))

/-- CHANNEL_CAUSES_WRITE (R173). -/
def execChannelCausesWrite (h : Half) (v : Word) (s : State) : Host.Outcome State Fault Refusal :=
  .next (live s (writeChannelCauses h v s))

/-- SYSTEM_CAUSES_WRITE (R173). -/
def execSystemCausesWrite (h : Half) (v : Word) (s : State) : Host.Outcome State Fault Refusal :=
  .next (live s (writeSystemCauses h v s))

/-- SYSTEM_ROUTES_WRITE (R175). -/
def execSystemRoutesWrite (v : Word) (s : State) : Host.Outcome State Fault Refusal :=
  .next (live s (writeSystemRoutes v s))

/-- CHANNEL_ENABLE_FROM_OLDEST (R94). -/
def execChannelEnableFromOldest (h : Half) (s : State) : Host.Outcome State Fault Refusal :=
  .next (live s (cmdEnableFromOldest h s))

/-- CHANNEL_ENABLE_FROM_NEXT (R95). -/
def execChannelEnableFromNext (h : Half) (s : State) : Host.Outcome State Fault Refusal :=
  .next (live s (cmdEnableFromNext h s))

/-- CHANNEL_DISABLE (R96). -/
def execChannelDisable (h : Half) (s : State) : Host.Outcome State Fault Refusal :=
  .next (live s (cmdDisableChannel h s))

/-- CHANNEL_SKIP (R97). -/
def execChannelSkip (h : Half) (s : State) : Host.Outcome State Fault Refusal := .next (live s (cmdSkip h s))

/-- CHANNEL_REREAD (R98). -/
def execChannelReread (h : Half) (s : State) : Host.Outcome State Fault Refusal := .next (live s (cmdReread h s))

end Sys2Proof.Machine
end

