-- ==== Sys2Proof/Machine/Outputs.lean ====
section
/-! DEFINITION. Outputs: computed levels and pins, pulse requests and pulse timers, mode changes (Chapter 8), and the meanings
of LENGTH_TIMER_EXPIRY, GAP_TIMER_EXPIRY and FLASH_PHASE. -/
namespace Sys2Proof.Machine

/-- What a pin does (the table of R152). -/
inductive Pin
  | drivenHigh | drivenLow | released
deriving DecidableEq, Repr

/-- The FAST cadence is active (R155): the flash phase, in milliseconds modulo 250, is below 125. -/
def OutputUnit.fastOn (u : OutputUnit) : Bool := u.flash / 1000 % 250 < 125

/-- The SLOW cadence is active (R155): the flash phase is below 500. -/
def OutputUnit.slowOn (u : OutputUnit) : Bool := u.flash / 1000 % 1000 < 500

/-- The level a lamp pattern gives at the present flash phase (R156). -/
def OutputUnit.lampLevel (u : OutputUnit) : Lamp → Bool
  | .fast => u.fastOn
  | .slow => u.slowOn
  | .steady => true
  | .off => false

/-- An output's computed level, true for active (R152). -/
def OutputUnit.computed (u : OutputUnit) (q : OutputId) : Bool :=
  let o := u.lines.get q
  match o.mode with
  | .direct => u.data.getLsbD q.val
  | .lamp => u.lampLevel (u.handed.get o.threshold).lamp
  | .horn => (u.handed.get o.threshold).horn
  | .pulse => o.phase = .pulsing

/-- The pin level a computed level stands for under the polarity (R152). -/
def Polarity.level (p : Polarity) (active : Bool) : Level :=
  match p with
  | .activeHigh => Level.ofBit active
  | .activeLow => Level.ofBit (!active)

/-- What a drive does with a pin level (R152). -/
def Drive.pin (d : Drive) (v : Level) : Pin :=
  match d, v with
  | .pushPull, .high => .drivenHigh
  | .pushPull, .low => .drivenLow
  | .openDrain, .high => .released
  | .openDrain, .low => .drivenLow
  | .highZ, _ => .released

/-- An output's pin (R152, R202). -/
def State.outputPin (s : State) (q : OutputId) : Pin :=
  let o := s.outputs.lines.get q
  o.drive.pin (o.polarity.level (s.outputs.computed q))

/-- The pin of a half's request output, IRQA or IRQB: asserted it is driven low, deasserted it is released (R202). -/
def State.requestPin (s : State) (h : Half) : Pin := if s.irqAsserted h then .drivenLow else .released

/-- An output enters PULSING, or restarts its pulse, with its length timer started at the full pulse length (R159). -/
def OutputLine.startPulse (o : OutputLine) (elapsed : Nat) : OutputLine :=
  { o with phase := .pulsing, timer := some (elapsed + 1000 * o.length.toNat) }

/-- An output enters GAP with its gap timer started (R160). -/
def OutputLine.startGap (o : OutputLine) (elapsed : Nat) : OutputLine :=
  { o with phase := .gap, timer := some (elapsed + 1000 * o.gap.toNat) }

/-- An output with its pulse state IDLE, no timer and no request queued. -/
def OutputLine.rest (o : OutputLine) : OutputLine := { o with phase := .idle, timer := none, queued := 0 }

/-- A dropped request raises the dropped counter (R166). -/
def OutputLine.drop (o : OutputLine) : OutputLine := { o with dropped := satInc o.dropped }

/-- Whether an output in PULSE mode drops a request: QUEUE, a pulse or gap running, 15 requests held (R159). -/
def OutputLine.full (o : OutputLine) : Bool := o.retrigger = .queue && o.phase ≠ .idle && 15 ≤ o.queued

/-- A request to an output in PULSE mode (the table of R159). -/
def OutputLine.request (o : OutputLine) (elapsed : Nat) : OutputLine :=
  match o.phase, o.retrigger with
  | .idle, _ => o.startPulse elapsed
  | .pulsing, .restart => o.startPulse elapsed
  | .gap, .restart => o.startPulse elapsed
  | .pulsing, .queue => if 15 ≤ o.queued then o.drop else { o with queued := o.queued + 1 }
  | .gap, .queue => if 15 ≤ o.queued then o.drop else { o with queued := o.queued + 1 }

/-- A pulse request from the classifier, the engine or the Alarm List (R158): ignored and counted outside PULSE mode. -/
def requestPulse (q : OutputId) (s : State) : State :=
  let o := s.outputs.lines.get q
  s.setOutput q (if o.mode = .pulse then o.request s.time.elapsed else o.drop)

/-- A request on the output an action names, or nothing for no action. -/
def requestAction (action : Option OutputId) (s : State) : State :=
  match action with
  | none => s
  | some q => requestPulse q s

/-- The length timer expires (R160). -/
def OutputLine.lengthExpires (o : OutputLine) (elapsed : Nat) : OutputLine :=
  match o.retrigger with
  | .queue => o.startGap elapsed
  | .restart => if o.queued = 0 then o.rest else o.startGap elapsed

/-- The gap timer expires (R161). -/
def OutputLine.gapExpires (o : OutputLine) (elapsed : Nat) : OutputLine :=
  if o.queued = 0 then o.rest else { o with queued := o.queued - 1 }.startPulse elapsed

/-- A write of the mode (R164): leaving PULSE cancels any pulse in flight without counting the requests held, and entering
it begins in IDLE. -/
def OutputLine.setMode (o : OutputLine) (m : OutputMode) : OutputLine :=
  if o.mode = m then o else { o with mode := m }.rest

/-- RESTART at an output (R169): in PULSE mode the pulse and the requests held are discarded. -/
def OutputLine.restarted (o : OutputLine) : OutputLine := if o.mode = .pulse then o.rest else o

/-- LENGTH_TIMER_EXPIRY (R160); no length timer running, no expiry (log 3). -/
def execLengthTimerExpiry (q : OutputId) (s : State) : Host.Outcome State Fault Refusal :=
  let o := s.outputs.lines.get q
  .next (timed s
    (if o.phase = .pulsing ∧ o.timer.isSome then s.setOutput q (o.lengthExpires s.time.elapsed) else s))

/-- GAP_TIMER_EXPIRY (R161); no gap timer running, no expiry (log 3). -/
def execGapTimerExpiry (q : OutputId) (s : State) : Host.Outcome State Fault Refusal :=
  let o := s.outputs.lines.get q
  .next (timed s (if o.phase = .gap ∧ o.timer.isSome then s.setOutput q (o.gapExpires s.time.elapsed) else s))

/-- The microseconds of the flash phase at its next cadence boundary: every 125 ms, and back to 0 at 1000 ms (R155). -/
def nextFlashBoundary (flash : Nat) : Nat := (flash / 125000 + 1) * 125000 % 1000000

/-- FLASH_PHASE: the flash phase stands at its next boundary, and LAMP outputs follow it by `OutputUnit.computed` (R155,
R156; log 13). -/
def execFlashPhase (s : State) : Host.Outcome State Fault Refusal :=
  .next (timed s { s with outputs := { s.outputs with flash := nextFlashBoundary s.outputs.flash } })

end Sys2Proof.Machine
end

