-- ==== Sys2Proof/Machine/Alarms.lean ====
section
/-! DEFINITION. Alarms: alarm entries, their transitions, acknowledgement, silencing, escalation and the summaries
(Chapter 7), and the meaning of ESCALATION_TIMER_EXPIRY. -/
namespace Sys2Proof.Machine

/-! ## Summaries (R146, R147) -/

/-- The lamp pattern of a threshold (R146). -/
def lampOf (entries : List AlarmEntry) (t : Fin 4) : Lamp :=
  let at_ := entries.filter fun e => t ≤ e.priority
  if at_.any (fun e => e.phase = .alert) then .fast
  else if at_.any (fun e => e.phase = .returned) then .slow
  else if at_.any (fun e => e.phase = .acked) then .steady
  else .off

/-- The horn condition of a threshold (R146). -/
def hornOf (entries : List AlarmEntry) (t : Fin 4) : Bool :=
  entries.any fun e => t ≤ e.priority && e.phase = .alert && !e.silenced

/-- The summaries of the four thresholds (R146). -/
def summariesOf (entries : List AlarmEntry) : Vector Summary 4 := Vector.ofFn fun t => ⟨lampOf entries t, hornOf entries t⟩

/-- What an output holds after a summary is handed: the new value where it changed, else what it held (R147). -/
def handOne (old new held : Summary) : Summary where
  lamp := if new.lamp ≠ old.lamp then new.lamp else held.lamp
  horn := if new.horn ≠ old.horn then new.horn else held.horn

/-- The summaries are computed anew, and the changed ones are handed to the Output Unit (R147). -/
def handSummaries (s : State) : State :=
  let new := summariesOf s.alarms.entries
  { s with
    alarms := { s.alarms with summaries := new }
    outputs := { s.outputs with
      handed := Vector.ofFn fun t => handOne (s.alarms.summaries.get t) (new.get t) (s.outputs.handed.get t) } }

/-! ## Entries -/

/-- The state with the entries replaced. -/
def State.setEntries (s : State) (es : List AlarmEntry) : State := { s with alarms := { s.alarms with entries := es } }

/-- The entry of a line, if there is one (R130). -/
def State.alarmOf (s : State) (l : LineId) : Option AlarmEntry := s.alarms.entries.find? fun e => e.line = l

/-- The entries with the entry of a line changed, every entry in its place (R130). -/
def changeEntry (l : LineId) (f : AlarmEntry → AlarmEntry) (es : List AlarmEntry) : List AlarmEntry :=
  es.map fun e => if e.line = l then f e else e

/-- The entries without the entry of a line; those behind it close up (R130). -/
def removeEntry (l : LineId) (es : List AlarmEntry) : List AlarmEntry := es.filter fun e => e.line ≠ l

/-- The escalation timer started for a priority: stopped where its escalation time is 0 (R143). -/
def State.escalationTimer (s : State) (p : Fin 4) : Option Nat :=
  let t := (s.alarms.escalation.get p).time
  if t = 0 then none else some (s.inMillis (1000 * t.toNat))

/-- What an event brings the Alarm List (R131). -/
structure AlarmEvent where
  line : LineId
  priority : Fin 4
  stamp : Stamp
  test : Bool
  ref : Option Word
deriving DecidableEq, Repr

/-- A created entry at the end of the list, ALARM NEW set (R133); a chatter on then has the chatter flag set (R135). -/
def createEntry (ev : AlarmEvent) (chatter : Bool) (s : State) : State :=
  handSummaries (raise .alarmNew (s.setEntries (s.alarms.entries ++ [
    { line := ev.line, phase := .alert, priority := ev.priority, first := ev.stamp, ref := ev.ref, repeats := 0,
      test := ev.test, chatter := chatter, silenced := false, timer := s.escalationTimer ev.priority }])))

/-- A departure at the Alarm List (R132). -/
def alarmDeparture (ev : AlarmEvent) (s : State) : State :=
  match s.alarmOf ev.line with
  | none => createEntry ev false s
  | some e =>
    match e.phase with
    | .returned =>
      handSummaries (s.setEntries (changeEntry ev.line (fun x =>
        { x with phase := .alert, repeats := satInc8 x.repeats, silenced := false, test := ev.test,
                 timer := s.escalationTimer x.priority }) s.alarms.entries))
    | .alert => s
    | .acked => s

/-- A return at the Alarm List (R134). -/
def alarmReturn (l : LineId) (s : State) : State :=
  match s.alarmOf l with
  | none => s
  | some e =>
    match e.phase with
    | .alert =>
      handSummaries (s.setEntries (changeEntry l (fun x => { x with phase := .returned, timer := none }) s.alarms.entries))
    | .acked =>
      handSummaries (s.setEntries
        (if (s.lineTable.get l).ackMode = .both then
          changeEntry l (fun x => { x with phase := .returned }) s.alarms.entries
        else removeEntry l s.alarms.entries))
    | .returned => s

/-- A chatter on (R135). -/
def alarmChatterOn (ev : AlarmEvent) (s : State) : State :=
  match s.alarmOf ev.line with
  | none => createEntry ev true s
  | some _ => s.setEntries (changeEntry ev.line (fun x => { x with chatter := true }) s.alarms.entries)

/-- A chatter off, then the return or the departure its final level gives (R131, R135). -/
def alarmChatterOff (ev : AlarmEvent) (atNormal : Bool) (s : State) : State :=
  let cleared := s.setEntries (changeEntry ev.line (fun x => { x with chatter := false }) s.alarms.entries)
  if atNormal then alarmReturn ev.line cleared else alarmDeparture ev cleared

/-- A withdrawal on disarm (R136). -/
def alarmWithdraw (l : LineId) (s : State) : State :=
  match s.alarmOf l with
  | none => s
  | some _ => handSummaries (s.setEntries (removeEntry l s.alarms.entries))

/-! ## Acknowledgement and silencing -/

/-- The ACK record of an acknowledgement, when the ACK recording control is on (R140). -/
def ackRecord (l : LineId) (r : AckResult) (test : Bool) (tag : Word) (side : Half) (s : State) : State :=
  if s.alarms.ackRecording then report s.now test (.ack l r tag side) s else s

/-- An acknowledgement of one line's entry (R138), with whether it changed the entry; summaries are not yet handed. -/
def ackEntry (tag : Word) (side : Half) (l : LineId) (s : State) : Bool × State :=
  match s.alarmOf l with
  | none => (false, s)
  | some e =>
    match e.phase with
    | .alert =>
      (true, ackRecord l .acked e.test tag side
        (s.setEntries (changeEntry l (fun x => { x with phase := .acked, timer := none }) s.alarms.entries)))
    | .returned => (true, ackRecord l .removed e.test tag side (s.setEntries (removeEntry l s.alarms.entries)))
    | .acked => (false, s)

/-- Acknowledgements of several lines in order, with whether one of them changed an entry (R139). -/
def ackEntries (tag : Word) (side : Half) : List LineId → Bool × State → Bool × State
  | [], r => r
  | l :: ls, (changed, s) =>
    let r := ackEntry tag side l s
    ackEntries tag side ls (changed || r.1, r.2)

/-- SILENCE at the Alarm List (R141): every unsilenced ALERT entry is silenced, and one record carries their count. -/
def silenceEntries (side : Half) (s : State) : State :=
  let hit := fun e : AlarmEntry => e.phase = .alert && !e.silenced
  let n := (s.alarms.entries.filter hit).length
  let quiet := s.alarms.entries.map fun e => if hit e then { e with silenced := true } else e
  report s.now false (.silence n side) (handSummaries (s.setEntries quiet))

/-! ## Escalation -/

/-- The next priority up, 3 the highest (R144, step 2). -/
def raisePriority (p : Fin 4) : Fin 4 := if h : p.val < 3 then ⟨p.val + 1, by omega⟩ else p

/-- An entry escalates, the six steps of R144 in order. -/
def escalate (e : AlarmEntry) (s : State) : State :=
  let action := (s.alarms.escalation.get e.priority).action
  let p := raisePriority e.priority
  let raised := handSummaries (s.setEntries
    (changeEntry e.line (fun x => { x with priority := p, silenced := false, timer := none }) s.alarms.entries))
  let recorded := raise .escalated (report s.now e.test (.escalate e.line p) raised)
  let asked := requestAction action recorded
  asked.setEntries (changeEntry e.line (fun x => { x with timer := asked.escalationTimer p }) asked.alarms.entries)

/-- ESCALATION_TIMER_EXPIRY (R144): in ALERT with the timer running the entry escalates; else there is no expiry (log 3). -/
def execEscalationTimerExpiry (l : LineId) (s : State) : Host.Outcome State Fault Refusal :=
  .next (timed s (match s.alarmOf l with
    | none => s
    | some e => if e.phase = .alert ∧ e.timer.isSome then escalate e s else s))

end Sys2Proof.Machine
end

