-- ==== Sys2Proof/Machine/Correlation.lean ====
section
/-! DEFINITION. Correlation: contexts, their starts, advances, matches and lapses (Chapter 6), and the meaning of
LAPSE_TIMER_EXPIRY. -/
namespace Sys2Proof.Machine

/-- A line event at the engine (R111). -/
structure CorrEvent where
  line : LineId
  direction : Direction
  stamp : Stamp
  test : Bool
  ref : Option Word
deriving DecidableEq, Repr

/-- Whether a step names the event's line and direction. -/
def RuleStep.names (st : RuleStep) (ev : CorrEvent) : Bool := st.line = ev.line && st.direction = ev.direction

/-- Whether step position p, 0 for step 1, is a step of the rule and names the event. -/
def CorrRule.stepNames (r : CorrRule) (ev : CorrEvent) (p : Fin 4) : Bool := p.val < r.stepCount && (r.steps.get p).names ev

/-- The matched steps held, in position order. -/
def CorrContext.heldSteps (c : CorrContext) : List StepHeld := c.steps.toList.filterMap id

/-- The references of the positions (R65). -/
def CorrContext.refs (c : CorrContext) : Vector (Option Word) 4 := Vector.ofFn fun p => (c.steps.get p).bind fun x => x.ref

/-- The matched positions as a set (R119). -/
def CorrContext.positions (c : CorrContext) : Vector Bool 4 := Vector.ofFn fun p => (c.steps.get p).isSome

/-- Whether the test tag of any matched step was set (R115, R119). -/
def CorrContext.anyTest (c : CorrContext) : Bool := c.heldSteps.any fun x => x.test

/-- The edge timestamp of the last step matched, in position order (R112). -/
def CorrContext.lastEdge (c : CorrContext) : Timestamp :=
  match c.heldSteps.getLast? with
  | none => 0
  | some x => x.stamp.time

/-- The position at which a context accepts the event, none where it declines it: ordered as R112 gives, unordered as R113. -/
def CorrRule.accepts (r : CorrRule) (ev : CorrEvent) (c : CorrContext) : Option (Fin 4) :=
  if c.deadline < ev.stamp.time then none
  else if r.ordered then
    if c.lastEdge ≤ ev.stamp.time then
      (List.finRange 4).find? fun p => p.val = c.heldSteps.length && r.stepNames ev p
    else none
  else (List.finRange 4).find? fun p => (c.steps.get p).isNone && r.stepNames ev p

/-- The first of the contexts that accepts the event, with its place and the position (R111, step 1). -/
def firstAccepting (r : CorrRule) (ev : CorrEvent) : Nat → List CorrContext → Option (Nat × Fin 4)
  | _, [] => none
  | i, c :: cs =>
    match r.accepts ev c with
    | some p => some (i, p)
    | none => firstAccepting r ev (i + 1) cs

/-- The position an event that may start a context takes in it (R116). -/
def CorrRule.startPosition (r : CorrRule) (ev : CorrEvent) : Option (Fin 4) :=
  if r.ordered then (if r.stepNames ev 0 then some 0 else none)
  else (List.finRange 4).find? fun p => r.stepNames ev p

/-- The context an event starts (R110, R116): the lapse timer runs for the lapse instant less the counter's value. -/
def startedContext (r : CorrRule) (ev : CorrEvent) (p : Fin 4) (s : State) : CorrContext :=
  let deadline := satAdvance ev.stamp.time (1000 * r.window.toNat)
  let lapse := satAdvance deadline (1000 * r.grace.toNat)
  { steps := put (Vector.replicate 4 none) p (some ⟨ev.ref, ev.stamp, ev.test⟩)
    start := ev.stamp
    deadline := deadline
    lapsesAt := s.inMicros (lapse.toNat - s.time.counter.toNat) }

/-- How many contexts of the pool of 24 are open (R109). -/
def State.openContexts (s : State) : Nat := (s.rules.toList.map fun r => r.contexts.length).sum

/-- How many contexts are free (R126). -/
def State.freeContexts (s : State) : Nat := 24 - s.openContexts

/-- The contexts without the one at a place; it is freed, and any exhaustion episode ends (R109, R117). -/
def freeContext (r : RuleId) (place : Nat) (s : State) : State :=
  let x := s.rules.get r
  { s.setRule r { x with contexts := x.contexts.eraseIdx place } with exhausted := false }

/-- A context lapses (R118, R119, R123, R124): its LAPSE record for WINDOW only when lapse recording is on, the count, the freeing. -/
def lapse (reason : LapseReason) (r : RuleId) (place : Nat) (s : State) : State :=
  match (s.rules.get r).contexts[place]? with
  | none => s
  | some c =>
    let recorded :=
      if reason ≠ .window ∨ (s.rules.get r).recordLapses then
        report c.start c.anyTest (.lapsed r reason c.positions c.refs) s
      else s
    let x := recorded.rules.get r
    freeContext r place (recorded.setRule r { x with lapseCount := satInc x.lapseCount })

/-- The oldest context of a rule lapses, n times over (R123, R124). -/
def lapseOldest (reason : LapseReason) (r : RuleId) : Nat → State → State
  | 0, s => s
  | n + 1, s => lapseOldest reason r n (lapse reason r 0 s)

/-- A context completes (R114, R115): MATCH, the count, the match action, the freeing. -/
def complete (r : RuleId) (place : Nat) (c : CorrContext) (stamp : Stamp) (s : State) : State :=
  let recorded := report stamp c.anyTest (.matched r (s.rules.get r).stepCount c.refs) s
  let x := recorded.rules.get r
  freeContext r place (requestAction x.action (recorded.setRule r { x with matchCount := satInc x.matchCount }))

/-- A start is refused for want of room (R117). -/
def missStart (r : RuleId) (s : State) : State :=
  let x := s.rules.get r
  s.setRule r { x with missedStarts := satInc x.missedStarts }

/-- A context is started, or the start refused (R116, R117). -/
def startContext (r : RuleId) (ev : CorrEvent) (p : Fin 4) (s : State) : State :=
  let x := s.rules.get r
  if x.limit ≤ x.contexts.length then missStart r s
  else if s.freeContexts = 0 then
    if s.exhausted then missStart r s else raise .contextsExhausted { missStart r s with exhausted := true }
  else s.setRule r { x with contexts := x.contexts ++ [startedContext x ev p s] }

/-- The context an event's handling has started or advanced, when its lapse instant has come: it lapses at once after the
handling (R110, R120). -/
def lapsesAtOnce (r : RuleId) (place : Nat) (s : State) : List (RuleId × Nat) :=
  match (s.rules.get r).contexts[place]? with
  | none => []
  | some c => if c.lapsesAt ≤ s.time.elapsed then [(r, place)] else []

/-- One rule takes a line event (R111 to R117), with the context that is to lapse at once. -/
def visitRule (ev : CorrEvent) (r : RuleId) (s : State) : State × List (RuleId × Nat) :=
  let x := s.rules.get r
  if !x.enabled then (s, [])
  else
    match firstAccepting x ev 0 x.contexts with
    | some (i, p) =>
      match x.contexts[i]? with
      | none => (s, [])
      | some c =>
        let advanced : CorrContext := { c with steps := put c.steps p (some ⟨ev.ref, ev.stamp, ev.test⟩) }
        let held := s.setRule r { x with contexts := x.contexts.set i advanced }
        if x.stepCount ≤ advanced.heldSteps.length then (complete r i advanced ev.stamp held, [])
        else (held, lapsesAtOnce r i held)
    | none =>
      match x.startPosition ev with
      | none => (s, [])
      | some p =>
        let started := startContext r ev p s
        (started,
          if x.contexts.length < (started.rules.get r).contexts.length then lapsesAtOnce r x.contexts.length started
          else [])

/-- The rules take a line event in ascending rule number (R111). -/
def visitRules (ev : CorrEvent) : List RuleId → State → State × List (RuleId × Nat)
  | [], s => (s, [])
  | r :: rs, s =>
    let v := visitRule ev r s
    let w := visitRules ev rs v.1
    (w.1, v.2 ++ w.2)

/-- Contexts lapse with reason WINDOW, in the order of the list. -/
def lapseAll : List (RuleId × Nat) → State → State
  | [], s => s
  | (r, i) :: rest, s => lapseAll rest (lapse .window r i s)

/-- The engine takes a line event whole (R111): the rules in order, then the lapses at once, in an order the manual leaves
open where there are several (log 6). -/
def correlate (ev : CorrEvent) (s : State) : State :=
  let v := visitRules ev (List.finRange 16) s
  let order := arrange (Config.lapseChoice v.1.freeIndex) v.2.length v.2
  lapseAll order { v.1 with freeIndex := if v.2.length ≤ 1 then v.1.freeIndex else v.1.freeIndex + 1 }

/-- RULE DISABLE at an enabled rule: every open context ends, oldest first, and the rule is disabled (R123). -/
def disableRule (r : RuleId) (s : State) : State :=
  let ended := lapseOldest .disabled r (s.rules.get r).contexts.length s
  ended.setRule r { ended.rules.get r with enabled := false }

/-- LAPSE_TIMER_EXPIRY (R118): the rule's open context at this place lapses; with none there, there is no expiry (log 3). -/
def execLapseTimerExpiry (r : RuleId) (place : Nat) (s : State) : Host.Outcome State Fault Refusal :=
  .next (timed s (lapse .window r place s))

end Sys2Proof.Machine
end

