-- ==== Sys2Proof/Machine/Groups.lean ====
section
/-! DEFINITION. Groups: first-out groups, their resolution and their consequents (sections 3.6 to 3.8), and the meaning of
RESOLUTION_TIMER_EXPIRY. -/
namespace Sys2Proof.Machine

/-- Of two candidates the one judged first: the earlier edge as an unsigned number, and of equal edges the lower line (R51). -/
def earlier (a b : Candidate) : Candidate :=
  if b.stamp.time < a.stamp.time ∨ (b.stamp.time = a.stamp.time ∧ b.line < a.line) then b else a

/-- The candidate judged first (R51). -/
def firstOutOf : List Candidate → Option Candidate
  | [] => none
  | c :: cs => some (cs.foldl earlier c)

/-- The candidates coincident with the first-out: the others at its edge timestamp (R51). -/
def coincidentWith (f : Candidate) (cs : List Candidate) : List Candidate :=
  cs.filter fun c => c.stamp.time = f.stamp.time && c.line ≠ f.line

/-- A group resolves on its candidates (R51, R52): it trips, appends its GROUP TRIP record and sets the cause. -/
def resolveGroup (g : GroupId) (discontinuity : Bool) (s : State) : State :=
  let x := s.groups.get g
  match firstOutOf x.candidates with
  | none => s
  | some f =>
    let ties := coincidentWith f x.candidates
    let mask := maskOf fun l => ties.any fun c => c.line = l
    let n := x.candidates.length
    let tripped : FirstOutGroup :=
      { x with
        phase := .tripped
        candidates := []
        timer := none
        firstOut := some ⟨f.line, f.stamp, f.ref⟩
        coincident := mask
        candidateCount := n
        consequents := toWord (n - 1 - ties.length)
        discontinuity := discontinuity }
    raise .groupTrip (report f.stamp f.test (.groupTrip g discontinuity f.line n mask f.ref) (s.setGroup g tripped))

/-- A member's departure is handed to its group (R49, R50, R53). -/
def groupDeparture (g : GroupId) (c : Candidate) (s : State) : State :=
  let x := s.groups.get g
  match x.phase with
  | .clear =>
    let opened : FirstOutGroup :=
      { x with
        phase := .resolving
        candidates := [c]
        timer := if x.window = 0 then none else some (s.inMillis x.window.toNat) }
    if x.window = 0 then resolveGroup g false (s.setGroup g opened) else s.setGroup g opened
  | .resolving =>
    if x.candidates.any (fun d => d.line = c.line) then s
    else s.setGroup g { x with candidates := x.candidates ++ [c] }
  | .tripped => s.setGroup g { x with consequents := satInc x.consequents }

/-- GROUP RESET at a tripped group: GROUP CLEAR is appended with the consequent count before the reset, and the group is
CLEAR (R54). -/
def clearGroup (g : GroupId) (s : State) : State :=
  let x := s.groups.get g
  (report s.now false (.groupClear g x.consequents) s).setGroup g (FirstOutGroup.cleared x.window)

/-- RESOLUTION_TIMER_EXPIRY (R51): a resolving group with its timer running resolves; else there is no expiry (log 3). -/
def execResolutionTimerExpiry (g : GroupId) (s : State) : Host.Outcome State Fault Refusal :=
  let x := s.groups.get g
  .next (timed s (if x.phase = .resolving ∧ x.timer.isSome then resolveGroup g false s else s))

end Sys2Proof.Machine
end

