-- ==== Sys2Proof/Machine/Classifier.lean ====
section
/-! DEFINITION. Classifier: the handling of one raw event, whole (R38): its record, then the Group Unit, the Correlation
Engine, the Alarm List and the pulse request, as Table 17 routes each kind. -/
namespace Sys2Proof.Machine

/-- The body of the LINE record of a line's change, with the qualified offnormal mask under the snapshot option (R45). -/
def lineBody (l : LineId) (d : Direction) (s : State) : Body :=
  let e := s.lineTable.get l
  .line l d e.cls e.priority e.group (if e.snapshot then some s.offnormalMask else none)

/-- A LINE record where the report mask calls for one, with the record number passed on, absent where it does not (R46). -/
def recordChange (wanted : Bool) (l : LineId) (d : Direction) (stamp : Stamp) (test : Bool) (s : State) :
    Option Word × State :=
  if wanted then
    let a := append stamp test (lineBody l d s) s
    (some a.1, a.2)
  else (none, s)

/-- A DEPART (R41). -/
def classifyDepart (l : LineId) (stamp : Stamp) (test : Bool) (s : State) : State :=
  let e := s.lineTable.get l
  let a := recordChange e.recordDepartures l .depart stamp test s
  let grouped :=
    match e.group with
    | none => a.2
    | some g => groupDeparture g ⟨l, stamp, test, a.1⟩ a.2
  let matched := correlate ⟨l, .depart, stamp, test, a.1⟩ grouped
  let alarmed := if e.ackMode = .off then matched else alarmDeparture ⟨l, e.priority, stamp, test, a.1⟩ matched
  requestAction e.departAction alarmed

/-- A RETURN (R42). -/
def classifyReturn (l : LineId) (stamp : Stamp) (test : Bool) (s : State) : State :=
  let e := s.lineTable.get l
  let a := recordChange e.recordReturns l .giveBack stamp test s
  let matched := correlate ⟨l, .giveBack, stamp, test, a.1⟩ a.2
  let alarmed := if e.ackMode = .off then matched else alarmReturn l matched
  requestAction e.returnAction alarmed

/-- An INITIAL (R43). -/
def classifyInitial (l : LineId) (level : Level) (stamp : Stamp) (test : Bool) (s : State) : State :=
  let e := s.lineTable.get l
  let a := append stamp test (.armed l level) s
  if e.ackMode = .off ∨ level = e.normal then a.2 else alarmDeparture ⟨l, e.priority, stamp, test, some a.1⟩ a.2

/-- A CHATTER ON (R44): its record, the CHATTER cause, the Alarm List. -/
def classifyChatterOn (l : LineId) (level : Level) (stamp : Stamp) (test : Bool) (s : State) : State :=
  let e := s.lineTable.get l
  let a := append stamp test (.chatterOn l level) s
  let caused := raise .chatter a.2
  if e.ackMode = .off then caused else alarmChatterOn ⟨l, e.priority, stamp, test, some a.1⟩ caused

/-- A CHATTER OFF (R44). -/
def classifyChatterOff (l : LineId) (level : Level) (suppressed : Word) (stamp : Stamp) (test : Bool) (s : State) : State :=
  let e := s.lineTable.get l
  let a := append stamp test (.chatterOff l level suppressed) s
  if e.ackMode = .off then a.2 else alarmChatterOff ⟨l, e.priority, stamp, test, some a.1⟩ (level = e.normal) a.2

/-- A DISARMED (R44). -/
def classifyDisarmed (l : LineId) (stamp : Stamp) (test : Bool) (s : State) : State :=
  let e := s.lineTable.get l
  let recorded := report stamp test (.disarmed l) s
  if e.ackMode = .off then recorded else alarmWithdraw l recorded

end Sys2Proof.Machine
end

