-- ==== Sys2Proof/Machine/Conditioner.lean ====
section
/-! DEFINITION. Conditioner: the conditioning state machine of a line (Chapter 1), and the meanings of FIELD_LINE_CHANGE,
QUALIFICATION_EXPIRY, CHATTER_WINDOW_EXPIRY and RELEASE_EXPIRY. -/
namespace Sys2Proof.Machine

/-- The profile of a line's entry (R3). -/
def State.profileOf (s : State) (l : LineId) : Profile := s.profiles.get (s.lineTable.get l).profile

/-- The moment a qualification timer started now with the full check time expires (Table 5: tenths of a millisecond). -/
def State.checkExpires (s : State) (l : LineId) : Nat := s.inMicros (100 * (s.profileOf l).checkTime.toNat)

/-! ## Chatter supervision (section 1.7) -/

/-- A line enters CHATTER on the transition with this edge, and hands CHATTER ON (R13). -/
def enterChatter (l : LineId) (edge : Stamp) (s : State) : State :=
  let x := s.lines.get l
  classifyChatterOn l (x.qualified.getD x.effective) edge x.injected.isSome
    (s.setLine l { x with
      cond := .chatter
      window := none
      suppressed := 0
      lastChange := some edge
      releaseTimer := some (s.inMillis (s.profileOf l).releaseTime.toNat) })

/-- The chatter window after one more qualified transition (R12). -/
def countedWindow (w : Option ChatterWindow) (closes : Nat) : ChatterWindow :=
  match w with
  | none => ⟨1, closes⟩
  | some w => { w with count := w.count + 1 }

/-- A qualified transition is counted; the one that reaches the limit puts the line into CHATTER (R12, R13). -/
def countTransition (l : LineId) (edge : Stamp) (s : State) : State :=
  let x := s.lines.get l
  let p := s.profileOf l
  let w := countedWindow x.window (s.inMillis p.chatterWindow.toNat)
  if p.chatterLimit = 0 then s
  else if p.chatterLimit.val ≤ w.count then enterChatter l edge s
  else s.setLine l { x with window := some w }

/-! ## Qualification (sections 1.5 and 1.6) -/

/-- A line leaves SETTLING at the level it holds, and hands INITIAL with the stamp of this moment (R6). -/
def qualifySettling (l : LineId) (s : State) : State :=
  let x := s.lines.get l
  classifyInitial l x.effective s.now x.injected.isSome
    (s.setLine l { x with
      cond := if x.effective = (s.lineTable.get l).normal then .normal else .offnormal
      qualified := some x.effective
      qualTimer := none })

/-- A departure qualifies: DEPART with the captured edge, then the transition is counted (R9, R13). -/
def qualifyDeparture (l : LineId) (s : State) : State :=
  let x := s.lines.get l
  let edge := x.edge.getD s.now
  countTransition l edge (classifyDepart l edge x.injected.isSome
    (s.setLine l { x with
      cond := .offnormal
      qualified := some (s.lineTable.get l).normal.flip
      edge := none
      qualTimer := none }))

/-- A return qualifies: RETURN with the captured edge, then the transition is counted (R10, R13). -/
def qualifyReturn (l : LineId) (s : State) : State :=
  let x := s.lines.get l
  let edge := x.edge.getD s.now
  countTransition l edge (classifyReturn l edge x.injected.isSome
    (s.setLine l { x with
      cond := .normal
      qualified := some (s.lineTable.get l).normal
      edge := none
      qualTimer := none }))

/-! ## Changes of the effective level -/

/-- A line at rest takes a change: the edge is captured and qualification starts (R7, R10). -/
def captureEdge (l : LineId) (c : Cond) (s : State) : State :=
  s.setLine l { s.lines.get l with cond := c, edge := some s.now, qualTimer := some (s.checkExpires l) }

/-- A change is a bounce: the captured edge is discarded and the line goes back (R8, R10). -/
def bounce (l : LineId) (c : Cond) (s : State) : State :=
  s.setLine l { s.lines.get l with cond := c, edge := none, qualTimer := none }

/-- A change in CHATTER is counted and restarts the release timer (R14). -/
def suppressChange (l : LineId) (s : State) : State :=
  let x := s.lines.get l
  s.setLine l { x with
    suppressed := satInc x.suppressed
    lastChange := some s.now
    releaseTimer := some (s.inMillis (s.profileOf l).releaseTime.toNat) }

/-- The state machine takes a change of the line's effective level (Table 8; with check time 0 a change in NORMAL or
OFFNORMAL qualifies at the change itself, R10). -/
def takeChange (l : LineId) (s : State) : State :=
  match (s.lines.get l).cond with
  | .disarmed => s
  | .settling => s.setLine l { s.lines.get l with qualTimer := some (s.checkExpires l) }
  | .normal =>
    if (s.profileOf l).checkTime = 0 then qualifyDeparture l (captureEdge l .departing s) else captureEdge l .departing s
  | .departing => bounce l .normal s
  | .offnormal =>
    if (s.profileOf l).checkTime = 0 then qualifyReturn l (captureEdge l .returning s) else captureEdge l .returning s
  | .returning => bounce l .offnormal s
  | .chatter => suppressChange l s

/-- A change is taken when the effective level has become different from the one last observed (R1). -/
def observeLevel (l : LineId) (s : State) : State :=
  let x := s.lines.get l
  if x.presentLevel = x.effective then s else takeChange l (s.setLine l { x with effective := x.presentLevel })

/-! ## Arming, disarming, settling, injection -/

/-- A line enters SETTLING with its qualification timer started, its effective level the physical one and nothing else
held (R23). -/
def LineState.settle (x : LineState) (expires : Nat) : LineState :=
  { LineState.reset x.physical with cond := .settling, qualTimer := some expires }

/-- ARM LINE at a DISARMED line: SETTLING, and at check time 0 out of it at once (R5, R6). -/
def armDisarmed (l : LineId) (s : State) : State :=
  let armed := s.setLine l { s.lines.get l with
    cond := .settling, qualTimer := some (s.checkExpires l), window := none, injected := none }
  if (s.profileOf l).checkTime = 0 then qualifySettling l armed else armed

/-- DISARM LINE at an armed line: DISARMED is handed, then everything the line held is discarded (R16). -/
def disarmArmed (l : LineId) (s : State) : State :=
  let handed := classifyDisarmed l s.now (s.lines.get l).injected.isSome s
  handed.setLine l (LineState.reset (handed.lines.get l).physical)

/-- The line's injected level is set, or with none the injection ends, and a change it makes is taken (R17, R18). -/
def injectLevel (l : LineId) (level : Option Level) (s : State) : State :=
  observeLevel l (s.setLine l { s.lines.get l with injected := level })

/-! ## Meanings -/

/-- FIELD_LINE_CHANGE: the input is sampled at the level (R1). Under reset the line holds its reset values with that level
(R22, R183; log 20). With CLK stopped nothing is sampled (R203). -/
def execFieldLineChange (l : LineId) (v : Level) (s : State) : Host.Outcome State Fault Refusal :=
  .next (if !s.clockRunning then s
    else if s.inReset then s.setLine l (LineState.reset v)
    else observeLevel l (s.setLine l { s.lines.get l with physical := v }))

/-- QUALIFICATION_EXPIRY (R6, R9, R10); with no qualification timer running there is no expiry (log 3). -/
def execQualificationExpiry (l : LineId) (s : State) : Host.Outcome State Fault Refusal :=
  let x := s.lines.get l
  .next (timed s (if x.qualTimer.isSome then
      match x.cond with
      | .settling => qualifySettling l s
      | .departing => qualifyDeparture l s
      | .returning => qualifyReturn l s
      | .disarmed => s
      | .normal => s
      | .offnormal => s
      | .chatter => s
    else s))

/-- CHATTER_WINDOW_EXPIRY: the window closes and its count is discarded (R12). -/
def execChatterWindowExpiry (l : LineId) (s : State) : Host.Outcome State Fault Refusal :=
  .next (timed s (s.setLine l { s.lines.get l with window := none }))

/-- A line is released from CHATTER at its effective level, and hands CHATTER OFF (R15). -/
def releaseLine (l : LineId) (s : State) : State :=
  let x := s.lines.get l
  classifyChatterOff l x.effective x.suppressed (x.lastChange.getD s.now) x.injected.isSome
    (s.setLine l { x with
      cond := if x.effective = (s.lineTable.get l).normal then .normal else .offnormal
      qualified := some x.effective
      window := none
      suppressed := 0
      lastChange := none
      releaseTimer := none })

/-- RELEASE_EXPIRY (R15); with no release timer running in CHATTER there is no expiry (log 3). -/
def execReleaseExpiry (l : LineId) (s : State) : Host.Outcome State Fault Refusal :=
  let x := s.lines.get l
  .next (timed s (if x.cond = .chatter ∧ x.releaseTimer.isSome then releaseLine l s else s))

end Sys2Proof.Machine
end

