-- ==== Sys2Proof/Machine/TimeBase.lean ====
section
/-! DEFINITION. TimeBase: the counter, SYNC pulses, corrections, steps, quality, SET TIME and the discontinuity notice
(Chapter 2), and the meanings of SYNC_PULSE, SUPERVISION_EXPIRY and HOLD_ABSORBED. -/
namespace Sys2Proof.Machine

/-! ## The discontinuity notice (R34, R55, R124) -/

/-- The groups the notice resolves, G0 first (R55). -/
def State.resolvingGroups (s : State) : List GroupId := (List.finRange 8).filter fun g => (s.groups.get g).phase = .resolving

/-- The lapses the notice makes: the rules in ascending number, one item for each open context (R124). -/
def State.openByRule (s : State) : List RuleId :=
  (List.finRange 16).flatMap fun r => List.replicate (s.rules.get r).contexts.length r

/-- One thing the notice does: a group resolves, or the oldest open context of a rule lapses. -/
def noticeAction (a : GroupId ⊕ RuleId) (s : State) : State :=
  match a with
  | .inl g => resolveGroup g true s
  | .inr r => lapse .timeStep r 0 s

/-- The things a notice does, in the order of the list. -/
def noticeActions : List (GroupId ⊕ RuleId) → State → State
  | [], s => s
  | a :: rest, s => noticeActions rest (noticeAction a s)

/-- The discontinuity notice (R34): every resolving group resolves (R55) and every open context lapses (R124), each block in
its own order; how the two orders interleave is left open (log 5). -/
def discontinuityNotice (s : State) : State :=
  let gs : List (GroupId ⊕ RuleId) := s.resolvingGroups.map Sum.inl
  let rs : List (GroupId ⊕ RuleId) := s.openByRule.map Sum.inr
  noticeActions (interleave (Config.noticeChoice s.freeIndex) (gs.length + rs.length) gs rs)
    { s with freeIndex := if gs = [] ∨ rs = [] then s.freeIndex else s.freeIndex + 1 }

/-! ## Quality (R33) -/

/-- The quality becomes q: a change appends a QUALITY record with the new quality in its header and sets the TIME QUALITY
cause (R33); a quality that stands does nothing. -/
def changeQuality (q : Quality) (s : State) : State :=
  if s.time.quality = q then s
  else
    raise .timeQuality (report ⟨s.time.counter, q⟩ false (.time .quality s.time.quality q 0)
      { s with time := { s.time with quality := q } })

/-! ## Corrections and steps (R28 to R30) -/

/-- The offset of a pulse: the signed distance from the counter to the nearest whole second (R29). -/
def pulseOffset (t : Timestamp) : Int :=
  let r := t.toNat % 1000000
  if r < 500000 then -(r : Int) else 1000000 - (r : Int)

/-- A timestamp moved by an offset, held at the largest value (R25, R30). -/
def moveBy (t : Timestamp) (offset : Int) : Timestamp := BitVec.ofNat 48 (min maxTimestamp ((t.toNat : Int) + offset).toNat)

/-- A correction within the step limit: forward at once, backward by a hold (R29). -/
def correctCounter (offset : Int) (s : State) : State :=
  if 0 ≤ offset then { s with time := { s.time with counter := moveBy s.time.counter offset } }
  else { s with time := { s.time with hold := toWord offset.natAbs } }

/-- A step (R30): the counter set, the STEP record with the quality before in its header, the quality change, the notice. -/
def stepCounter (q : Quality) (offset : Int) (s : State) : State :=
  let old := s.time.quality
  let t := moveBy s.time.counter offset
  let stepped := { s with time := { s.time with counter := t, hold := 0 } }
  discontinuityNotice (changeQuality q
    (report ⟨t, old⟩ false (.time .step old q (BitVec.ofInt 48 offset)) stepped))

/-- The counter is aligned to the pulse: within the step limit corrected, with the quality LOCKED (R28, R29); beyond it
stepped, with the quality `beyond` (R28, R30). -/
def alignCounter (beyond : Quality) (s : State) : State :=
  let offset := pulseOffset s.time.counter
  if offset.natAbs ≤ s.time.stepLimit.toNat then changeQuality .locked (correctCounter offset s)
  else stepCounter beyond offset s

/-- Whether a pulse's interval lies within 1 000 000 µs ± tolerance; with no reference there is no interval (R27, R28). -/
def TimeBase.regular (t : TimeBase) : Bool :=
  match t.lastPulse with
  | none => false
  | some ref => ((t.elapsed - ref : Nat) : Int) - 1000000 ≤ t.tolerance.toNat ∧ 1000000 - ((t.elapsed - ref : Nat) : Int) ≤ t.tolerance.toNat

/-- A pulse handled with sync enable On (R27 to R31). -/
def takePulse (s : State) : State :=
  let unheld := { s with time := { s.time with hold := 0 } }
  let handled :=
    match s.time.quality with
    | .free => unheld
    | .acquiring => if s.time.regular then alignCounter .locked unheld else unheld
    | .locked => alignCounter .acquiring unheld
    | .holdover => alignCounter .acquiring unheld
  { handled with time := { handled.time with
      lastPulse := some handled.time.elapsed
      supervision := some (handled.inMicros (1000000 + handled.time.tolerance.toNat)) } }

/-! ## SET TIME and the passing of time -/

/-- SET TIME with a value (R32): the counter, the SET record, the quality, the notice. -/
def setCounter (v : Timestamp) (s : State) : State :=
  let old := s.time.quality
  let new : Quality :=
    if s.time.syncEnable ∧ (old = .locked ∨ old = .holdover) then .acquiring else old
  let loaded := { s with time := { s.time with counter := v, hold := 0 } }
  discontinuityNotice (changeQuality new
    (report ⟨v, old⟩ false (.time .set old new (v - s.time.counter)) loaded))

/-- One microsecond of the Time Base: the counter advances, or the hold is reduced (R25, R29). -/
def TimeBase.tick (t : TimeBase) : TimeBase :=
  if t.hold = 0 then { t with elapsed := t.elapsed + 1, counter := satAdvance t.counter 1 }
  else { t with elapsed := t.elapsed + 1, hold := t.hold - 1 }

/-- One microsecond of the reference clock (R203): the Time Base and the flash phase advance; every other timer is held as
the elapsed time of its expiry. -/
def tick (s : State) : State :=
  { s with
    time := s.time.tick
    outputs := { s.outputs with flash := (s.outputs.flash + 1) % 1000000 } }

/-! ## Meanings -/

/-- SYNC_PULSE (R27): ignored with sync enable Off. -/
def execSyncPulse (s : State) : Host.Outcome State Fault Refusal :=
  .next (timed s (if s.time.syncEnable then takePulse s else s))

/-- SUPERVISION_EXPIRY (R31): the timer stops, and in LOCKED the quality becomes HOLDOVER; with no timer running there is no
expiry (log 3). -/
def execSupervisionExpiry (s : State) : Host.Outcome State Fault Refusal :=
  .next (timed s (if s.time.supervision.isSome then
      let stopped := { s with time := { s.time with supervision := none } }
      if s.time.quality = .locked then changeQuality .holdover stopped else stopped
    else s))

/-- HOLD_ABSORBED (R29): the hold remaining is 0 and the counter resumes from the value held (log 13). -/
def execHoldAbsorbed (s : State) : Host.Outcome State Fault Refusal :=
  .next (timed s { s with time := { s.time with hold := 0 } })

end Sys2Proof.Machine
end

