-- ==== Sys2Proof/Machine/Commands.lean ====
section
/-! DEFINITION. Commands: the commands of the slots that the blocks other than the channels act on (Table 41, codes 01h to 23h but
RESTART), and the meanings of their rows. -/
namespace Sys2Proof.Machine

/-! ## Lines (Chapter 1) -/

/-- ARM LINE at a line (R5). -/
def armLine (l : LineId) (s : State) : ResultCode × State :=
  if (s.lines.get l).armed then (.wrongState, s) else (.done, armDisarmed l s)

/-- DISARM LINE at a line (R16). -/
def disarmLine (l : LineId) (s : State) : ResultCode × State :=
  if (s.lines.get l).armed then (.done, disarmArmed l s) else (.wrongState, s)

/-- INJECT at a line (R17). -/
def injectLine (l : LineId) (v : Level) (s : State) : ResultCode × State :=
  if !(s.lines.get l).armed then (.wrongState, s)
  else if (s.lines.get l).injected = some v then (.noEffect, s)
  else (.done, injectLevel l (some v) s)

/-- END INJECT at a line (R18). -/
def endInjectLine (l : LineId) (s : State) : ResultCode × State :=
  if !(s.lines.get l).armed then (.wrongState, s)
  else if (s.lines.get l).injected = none then (.noEffect, s)
  else (.done, injectLevel l none s)

/-- A level operand: 0 LOW, 1 HIGH, any other word out of range (R17, R187). -/
def levelOperand (w : Word) : Option Level := if w = 0 then some .low else if w = 1 then some .high else none

/-- A write of 01h to CMD (R5). -/
def cmdArmLine (h : Half) : State → State := takeCommand h 0x01 fun slot s =>
  controlOnly h s (withOperand (operand 32 slot.arg0) s fun l => armLine l s)

/-- A write of 02h to CMD (R16). -/
def cmdDisarmLine (h : Half) : State → State := takeCommand h 0x02 fun slot s =>
  controlOnly h s (withOperand (operand 32 slot.arg0) s fun l => disarmLine l s)

/-- A write of 03h to CMD (R17). -/
def cmdInject (h : Half) : State → State := takeCommand h 0x03 fun slot s =>
  controlOnly h s (withOperand (operand 32 slot.arg0) s fun l =>
    withOperand (levelOperand slot.arg1) s fun v => injectLine l v s)

/-- A write of 04h to CMD (R18). -/
def cmdEndInject (h : Half) : State → State := takeCommand h 0x04 fun slot s =>
  controlOnly h s (withOperand (operand 32 slot.arg0) s fun l => endInjectLine l s)

/-! ## Groups, rules and time (Chapters 2, 3 and 6) -/

/-- GROUP RESET at a group (R54). -/
def groupReset (g : GroupId) (s : State) : ResultCode × State :=
  match (s.groups.get g).phase with
  | .clear => (.noEffect, s)
  | .resolving => (.wrongState, s)
  | .tripped => (.done, clearGroup g s)

/-- RULE ENABLE at a rule (R121). -/
def ruleEnable (r : RuleId) (s : State) : ResultCode × State :=
  if (s.rules.get r).enabled then (.noEffect, s)
  else
    (.done, s.setRule r { s.rules.get r with enabled := true, matchCount := 0, lapseCount := 0, missedStarts := 0 })

/-- RULE DISABLE at a rule (R123). -/
def ruleDisable (r : RuleId) (s : State) : ResultCode × State :=
  if (s.rules.get r).enabled then (.done, disableRule r s) else (.noEffect, s)

/-- The value SET TIME loads (R191). -/
def timeOperand (high : Word) (slot : Slot) : Timestamp := high ++ slot.arg0 ++ slot.arg1

/-- A write of 08h to CMD (R54). -/
def cmdGroupReset (h : Half) : State → State := takeCommand h 0x08 fun slot s =>
  controlOnly h s (withOperand (operand 8 slot.arg0) s fun g => groupReset g s)

/-- A write of 0Ch to CMD (R121). -/
def cmdRuleEnable (h : Half) : State → State := takeCommand h 0x0C fun slot s =>
  controlOnly h s (withOperand (operand 16 slot.arg0) s fun r => ruleEnable r s)

/-- A write of 0Dh to CMD (R123). -/
def cmdRuleDisable (h : Half) : State → State := takeCommand h 0x0D fun slot s =>
  controlOnly h s (withOperand (operand 16 slot.arg0) s fun r => ruleDisable r s)

/-- A write of 10h to CMD (R32, R191). -/
def cmdSetTime (h : Half) : State → State := takeCommand h 0x10 fun slot s =>
  controlOnly h s (.done, setCounter (timeOperand s.time.setHigh slot) s)

/-! ## The store and the outputs (Chapters 4 and 8) -/

/-- SNAPSHOT: the four line views are recorded (R189). -/
def takeSnapshot (s : State) : State :=
  report s.now false (.snapshot s.effectiveMask s.offnormalMask s.armedMask s.chatterMask) s

/-- STORE CLEAR: the store is emptied, both channels are told, and the MARK with note FFFFh is appended (R80). -/
def clearStore (s : State) : State :=
  let cleared := discardRecords true s
  report cleared.now false (.mark 0xFFFF .control) cleared

/-- The PULSE command at an output (R165). -/
def pulseOutput (q : OutputId) (s : State) : ResultCode × State :=
  if (s.outputs.lines.get q).mode ≠ .pulse then (.wrongState, s)
  else (if (s.outputs.lines.get q).full then .noEffect else .done, requestPulse q s)

/-- A write of 11h to CMD (R189). -/
def cmdSnapshot (h : Half) : State → State := takeCommand h 0x11 fun _ s => controlOnly h s (.done, takeSnapshot s)

/-- A write of 12h to CMD (R80). -/
def cmdStoreClear (h : Half) : State → State := takeCommand h 0x12 fun _ s => controlOnly h s (.done, clearStore s)

/-- A write of 14h to CMD (R165). -/
def cmdPulse (h : Half) : State → State := takeCommand h 0x14 fun slot s =>
  controlOnly h s (withOperand (operand 8 slot.arg0) s fun q => pulseOutput q s)

/-! ## Operators (Chapters 7 and 10) -/

/-- The result of an acknowledgement, with the summaries handed where it changed an entry (R138, R139, R147). -/
def acknowledged (r : Bool × State) : ResultCode × State := if r.1 then (.done, handSummaries r.2) else (.noEffect, r.2)

/-- ACK LINE at a line (R137, R138). -/
def ackLine (tag : Word) (side : Half) (l : LineId) (s : State) : ResultCode × State := acknowledged (ackEntry tag side l s)

/-- ACK ALL: every entry in list order (R139). -/
def ackAll (tag : Word) (side : Half) (s : State) : ResultCode × State :=
  acknowledged (ackEntries tag side (s.alarms.entries.map AlarmEntry.line) (false, s))

/-- MARK with a note (R190). -/
def markNote (note : Word) (side : Half) (s : State) : ResultCode × State :=
  if note = 0xFFFF then (.badOperand, s) else (.done, report s.now false (.mark note side) s)

/-- A write of 20h to CMD (R137). -/
def cmdAckLine (h : Half) : State → State := takeCommand h 0x20 fun slot s =>
  withOperand (operand 32 slot.arg0) s fun l => ackLine slot.arg1 h l s

/-- A write of 21h to CMD (R139). -/
def cmdAckAll (h : Half) : State → State := takeCommand h 0x21 fun slot s => ackAll slot.arg1 h s

/-- A write of 22h to CMD (R141). -/
def cmdSilence (h : Half) : State → State := takeCommand h 0x22 fun _ s => (.done, silenceEntries h s)

/-- A write of 23h to CMD (R190). -/
def cmdMark (h : Half) : State → State := takeCommand h 0x23 fun slot s => markNote slot.arg0 h s

/-! ## Meanings -/

/-- ARM_LINE (R5). -/
def execArmLine (h : Half) (s : State) : Host.Outcome State Fault Refusal := .next (live s (cmdArmLine h s))

/-- DISARM_LINE (R16). -/
def execDisarmLine (h : Half) (s : State) : Host.Outcome State Fault Refusal := .next (live s (cmdDisarmLine h s))

/-- INJECT (R17). -/
def execInject (h : Half) (s : State) : Host.Outcome State Fault Refusal := .next (live s (cmdInject h s))

/-- END_INJECT (R18). -/
def execEndInject (h : Half) (s : State) : Host.Outcome State Fault Refusal := .next (live s (cmdEndInject h s))

/-- GROUP_RESET (R54). -/
def execGroupReset (h : Half) (s : State) : Host.Outcome State Fault Refusal := .next (live s (cmdGroupReset h s))

/-- RULE_ENABLE (R121). -/
def execRuleEnable (h : Half) (s : State) : Host.Outcome State Fault Refusal := .next (live s (cmdRuleEnable h s))

/-- RULE_DISABLE (R123). -/
def execRuleDisable (h : Half) (s : State) : Host.Outcome State Fault Refusal := .next (live s (cmdRuleDisable h s))

/-- SET_TIME (R32). -/
def execSetTime (h : Half) (s : State) : Host.Outcome State Fault Refusal := .next (live s (cmdSetTime h s))

/-- SNAPSHOT (R189). -/
def execSnapshot (h : Half) (s : State) : Host.Outcome State Fault Refusal := .next (live s (cmdSnapshot h s))

/-- STORE_CLEAR (R80). -/
def execStoreClear (h : Half) (s : State) : Host.Outcome State Fault Refusal := .next (live s (cmdStoreClear h s))

/-- PULSE (R165). -/
def execPulse (h : Half) (s : State) : Host.Outcome State Fault Refusal := .next (live s (cmdPulse h s))

/-- ACK_LINE (R137). -/
def execAckLine (h : Half) (s : State) : Host.Outcome State Fault Refusal := .next (live s (cmdAckLine h s))

/-- ACK_ALL (R139). -/
def execAckAll (h : Half) (s : State) : Host.Outcome State Fault Refusal := .next (live s (cmdAckAll h s))

/-- SILENCE (R141). -/
def execSilence (h : Half) (s : State) : Host.Outcome State Fault Refusal := .next (live s (cmdSilence h s))

/-- MARK (R190). -/
def execMark (h : Half) (s : State) : Host.Outcome State Fault Refusal := .next (live s (cmdMark h s))

end Sys2Proof.Machine
end

