-- ==== Sys2Proof/Machine/Resets.lean ====
section
/-! DEFINITION. Resets: RESTART (R192) and the two edges of RESETn (R183, R193), and the meanings of RESTART, HARDWARE_RESET and
RESETN_ASSERTED. -/
namespace Sys2Proof.Machine

/-! ## RESTART (section 10.4) -/

/-- Step 2 of RESTART: the store is emptied and its ring begins again (R83; log 14), and a torn channel sets its TORN flag
but not its cause (R106). -/
def restartStore (s : State) : State :=
  let d := discardRecords false s
  { d with store := { d.store with tail := 0 } }

/-- The armed lines, in ascending number. -/
def State.armedLines (s : State) : List LineId := (List.finRange 32).filter fun l => (s.lines.get l).armed

/-- RESTART at the lines: every armed line settles anew, every DISARMED line stands (R23). -/
def restartLines (s : State) : State :=
  { s with lines := Vector.ofFn fun l =>
      if (s.lines.get l).armed then (s.lines.get l).settle (s.checkExpires l) else s.lines.get l }

/-- RESTART at the groups: every group CLEAR with its window (R58). -/
def restartGroups (s : State) : State := { s with groups := s.groups.map fun g => FirstOutGroup.cleared g.window }

/-- RESTART at the rules: every context freed without a record or a count, the exhaustion flag clear (R128). -/
def restartRules (s : State) : State :=
  { s with rules := s.rules.map fun r => { r with contexts := [] }, exhausted := false }

/-- RESTART at the Alarm List: it is emptied, and the changed summaries are handed (R150). -/
def restartAlarms (s : State) : State := handSummaries (s.setEntries [])

/-- RESTART at the outputs: a pulse in flight and the requests held are discarded (R169). -/
def restartOutputs (s : State) : State :=
  { s with outputs := { s.outputs with lines := s.outputs.lines.map OutputLine.restarted } }

/-- Steps 1 to 3 of RESTART (R192). -/
def restartBlocks (s : State) : State :=
  restartOutputs (restartAlarms (restartRules (restartGroups (restartLines
    (restartStore { s with irq := s.irq.clearFlags })))))

/-- Step 5 of RESTART: these lines leave SETTLING, one whole after another (R192). -/
def settleLines : List LineId → State → State
  | [], s => s
  | l :: ls, s => settleLines ls (qualifySettling l s)

/-- RESTART taken by the control half (R192). -/
def restartPart (s : State) : State :=
  let blocks := restartBlocks s
  let recorded := report blocks.now false (.restart .command) blocks
  settleLines (recorded.armedLines.filter fun l => (recorded.profileOf l).checkTime = 0) recorded

/-- A write of 1Fh to CMD (R192). -/
def cmdRestart (h : Half) : State → State := takeCommand h 0x1F fun _ s => controlOnly h s (.done, restartPart s)

/-! ## Hardware reset -/

/-- Every block at its hardware reset values with RESETn asserted (R183). The field inputs stand at their pins (R22), CLK and
the waiting commands are outside the part, and the free choices already used stay used (logs 8, 9, 20 and 21). -/
def holdInReset (s : State) : State :=
  { State.held with
    lines := s.lines.map fun x => LineState.reset x.physical
    clockRunning := s.clockRunning
    lastRead := s.lastRead
    freeIndex := s.freeIndex
    pending := s.pending }

/-- RESETn is released: every block holds its hardware reset values, and the RESTART record with cause RESET is appended as
number 0 (R82, R193). -/
def releaseReset (s : State) : State :=
  report ⟨0, .free⟩ false (.restart .reset) { holdInReset s with inReset := false }

/-! ## Meanings -/

/-- RESTART (R192). -/
def execRestart (h : Half) (s : State) : Host.Outcome State Fault Refusal := .next (live s (cmdRestart h s))

/-- HARDWARE_RESET (R193); RESETn is sampled against CLK, so nothing with CLK stopped (R202, R203; log 9). -/
def execHardwareReset (s : State) : Host.Outcome State Fault Refusal :=
  .next (if s.clockRunning then releaseReset s else s)

/-- RESETN_ASSERTED (R183); RESETn is sampled against CLK, so nothing with CLK stopped (R202, R203; log 9). -/
def execResetnAsserted (s : State) : Host.Outcome State Fault Refusal :=
  .next (if s.clockRunning then holdInReset s else s)

end Sys2Proof.Machine
end

