-- ==== Sys2Proof/Machine/TablePort.lean ====
section
/-! DEFINITION. TablePort: the configuration tables and status pages through the table port and the mirror port (section 10.5),
and the meanings of the port rows. -/
namespace Sys2Proof.Machine

/-! ## Addresses (R194, R195) -/

/-- Entries and words per entry of a select (Table 42); none for a select that names no table. -/
def tableShape : Nat → Option (Nat × Nat)
  | 0 => some (32, 10)
  | 1 => some (4, 4)
  | 2 => some (8, 10)
  | 3 => some (16, 11)
  | 4 => some (8, 5)
  | 5 => some (4, 2)
  | 6 => some (1, 7)
  | 7 => some (1, 8)
  | 8 => some (1, 8)
  | _ => none

/-- Whether an address names a word that exists (R194). -/
def PortAddress.valid (p : PortAddress) : Bool :=
  match tableShape p.select with
  | none => false
  | some (entries, words) => p.index < entries && p.offset < words

/-- The address a word written to TABLE ADDRESS names (Table 39). -/
def PortAddress.ofWord (w : Word) : PortAddress := ⟨field w 12 4, field w 4 5, field w 0 4⟩

/-- The TABLE ADDRESS word (Table 39). -/
def PortAddress.word (p : PortAddress) : Word := toWord (p.offset + 16 * p.index + 4096 * p.select)

/-- The address after a data access: the next word, the next entry after the last word, entry 0 after the last (R195). -/
def PortAddress.step (p : PortAddress) : PortAddress :=
  match tableShape p.select with
  | none => p
  | some (entries, words) =>
    if p.offset + 1 < words then { p with offset := p.offset + 1 }
    else if p.index + 1 < entries then { p with index := p.index + 1, offset := 0 }
    else { p with index := 0, offset := 0 }

/-! ## Words read (Tables 43 and 44, R199) -/

/-- LINE word 0 (Table 43). -/
def LineEntry.word0 (e : LineEntry) : Word :=
  toWord (e.normal.code + 2 * e.profile.val + 8 * e.snapshot.toNat + 16 * e.ackMode.code + 64 * e.recordDepartures.toNat +
    128 * e.recordReturns.toNat + 256 * e.cls.toNat + 4096 * e.priority.val)

/-- LINE word 1 (Table 43). -/
def LineEntry.word1 (e : LineEntry) : Word :=
  toWord (optionCode e.group + 16 * optionCode e.departAction + 256 * optionCode e.returnAction)

/-- The code of an injected level: the level while there is one, else 0 (R21; log 17). -/
def injectedCode (v : Option Level) : Nat :=
  match v with
  | none => 0
  | some x => x.code

/-- The code of a qualified level: 0 none, 1 LOW, 2 HIGH (Table 43). -/
def qualifiedCode (v : Option Level) : Nat :=
  match v with
  | none => 0
  | some x => 1 + x.code

/-- The transition count of a chatter window (R21); with none open it reads 0, the model's choice (log 28). -/
def windowCount (w : Option ChatterWindow) : Nat :=
  match w with
  | none => 0
  | some x => x.count % 16

/-- LINE word 2, conditioning status (Table 43, R21). -/
def LineState.statusWord (x : LineState) : Word :=
  toWord (x.cond.code + 8 * x.injected.isSome.toNat + 16 * injectedCode x.injected + 32 * qualifiedCode x.qualified +
    128 * x.window.isSome.toNat + 256 * windowCount x.window)

/-- LINE word 3: the suppressed count in CHATTER, 0 in other states (R21). -/
def LineState.suppressedWord (x : LineState) : Word := if x.cond = .chatter then x.suppressed else 0

/-- The place of a line's entry in the list, 1 for the oldest (R148). -/
def State.alarmPlace (s : State) (l : LineId) : Nat := s.alarms.entries.findIdx (fun e => e.line = l) + 1

/-- LINE words 4 to 9: alarm status of a line with an entry (Table 43, R148). Word 6 of an entry whose alert record number is
absent reads 0, the model's choice (log 29). -/
def AlarmEntry.statusWord (e : AlarmEntry) (place : Nat) : Nat → Word
  | 4 => toWord (1 + 2 * e.phase.code + 8 * e.priority.val + 32 * e.chatter.toNat + 64 * e.silenced.toNat +
      128 * e.test.toNat + 256 * e.timer.isSome.toNat + 512 * e.ref.isSome.toNat + 1024 * (place % 64))
  | 5 => toWord (e.repeats.toNat + 256 * e.first.quality.code)
  | 6 => e.ref.getD 0
  | 7 => e.first.time.extractLsb' 32 16
  | 8 => e.first.time.extractLsb' 16 16
  | 9 => e.first.time.extractLsb' 0 16
  | _ => 0

/-- A word of a LINE entry (Table 43). -/
def State.lineWord (s : State) (l : LineId) : Nat → Word
  | 0 => (s.lineTable.get l).word0
  | 1 => (s.lineTable.get l).word1
  | 2 => (s.lines.get l).statusWord
  | 3 => (s.lines.get l).suppressedWord
  | n =>
    match s.alarmOf l with
    | none => 0
    | some e => e.statusWord (s.alarmPlace l) n

/-- A word of a PROFILE entry (Table 44). -/
def Profile.word (p : Profile) : Nat → Word
  | 0 => p.checkTime
  | 1 => toWord p.chatterLimit.val
  | 2 => p.chatterWindow
  | 3 => p.releaseTime
  | _ => 0

/-- The first-out's parts of GROUP words 1 and 6 to 9, all 0 with no first-out (R57; log 16). -/
def firstOutWord (f : Option FirstOut) : Nat → Nat
  | 1 =>
    match f with
    | none => 0
    | some x => 8 * x.ref.isSome.toNat + 16 * x.stamp.quality.code + 256 * x.line.val + 8192
  | 6 =>
    match f with
    | none => 0
    | some x => (x.ref.getD 0).toNat
  | 7 =>
    match f with
    | none => 0
    | some x => (x.stamp.time.extractLsb' 32 16).toNat
  | 8 =>
    match f with
    | none => 0
    | some x => (x.stamp.time.extractLsb' 16 16).toNat
  | 9 =>
    match f with
    | none => 0
    | some x => (x.stamp.time.extractLsb' 0 16).toNat
  | _ => 0

/-- The mask of GROUP words 4 and 5: the candidates in RESOLVING, the coincident set in TRIPPED (Table 43). -/
def FirstOutGroup.statusMask (x : FirstOutGroup) : LineMask :=
  match x.phase with
  | .resolving => maskOf fun l => x.candidates.any fun c => c.line = l
  | .tripped => x.coincident
  | .clear => 0

/-- GROUP word 2: candidates in RESOLVING, the candidate count in TRIPPED (Table 43). -/
def FirstOutGroup.statusCount (x : FirstOutGroup) : Nat :=
  match x.phase with
  | .resolving => x.candidates.length
  | .tripped => x.candidateCount
  | .clear => 0

/-- A word of a GROUP entry (Table 43, R57). -/
def FirstOutGroup.word (x : FirstOutGroup) : Nat → Word
  | 0 => x.window
  | 1 => toWord (x.phase.code + 4 * x.discontinuity.toNat + firstOutWord x.firstOut 1)
  | 2 => toWord (x.statusCount % 64)
  | 3 => x.consequents
  | 4 => x.statusMask.extractLsb' 0 16
  | 5 => x.statusMask.extractLsb' 16 16
  | n => toWord (firstOutWord x.firstOut n)

/-- RULE words 1 to 4: a step (Table 44). -/
def RuleStep.word (st : RuleStep) : Word := toWord (st.line.val + 32 * st.direction.code)

/-- A word of a RULE entry (Table 44, R126). -/
def CorrRule.word (r : CorrRule) : Nat → Word
  | 0 => toWord (r.stepCount % 8 + 8 * r.ordered.toNat + 16 * r.recordLapses.toNat + 32 * (r.limit % 8) + 256 * optionCode r.action)
  | 1 => (r.steps.get 0).word
  | 2 => (r.steps.get 1).word
  | 3 => (r.steps.get 2).word
  | 4 => (r.steps.get 3).word
  | 5 => r.window
  | 6 => r.grace
  | 7 => toWord (r.enabled.toNat + 2 * (r.contexts.length % 8))
  | 8 => r.matchCount
  | 9 => r.lapseCount
  | 10 => r.missedStarts
  | _ => 0

/-- OUTPUT word 0 (Table 44). -/
def OutputLine.word0 (o : OutputLine) : Word :=
  toWord (o.mode.code + 4 * o.drive.code + 16 * o.polarity.code + 32 * o.threshold.val + 256 * o.retrigger.code)

/-- OUTPUT word 3, output status (Table 44, R167). -/
def State.outputStatus (s : State) (q : OutputId) : Word :=
  let o := s.outputs.lines.get q
  toWord ((s.outputs.computed q).toNat + 2 * (decide (s.outputPin q ≠ .released)).toNat + 4 * o.phase.code +
    16 * (decide (o.phase = .pulsing ∧ o.timer.isSome)).toNat + 32 * (decide (o.phase = .gap ∧ o.timer.isSome)).toNat +
    256 * (o.queued % 16))

/-- A word of an OUTPUT entry (Table 44). -/
def State.outputWord (s : State) (q : OutputId) : Nat → Word
  | 0 => (s.outputs.lines.get q).word0
  | 1 => (s.outputs.lines.get q).length
  | 2 => (s.outputs.lines.get q).gap
  | 3 => s.outputStatus q
  | 4 => (s.outputs.lines.get q).dropped
  | _ => 0

/-- A word of an ESCALATION entry (Table 44). -/
def EscalationEntry.word (e : EscalationEntry) : Nat → Word
  | 0 => e.time
  | 1 => toWord (optionCode e.action)
  | _ => 0

/-- The number of a record at an end of the store, 0 with the store empty (R199). -/
def numberOf (r : Option Record) : Word :=
  match r with
  | none => 0
  | some x => x.number

/-- The pending count, 0 with no loss pending (R81). -/
def Store.pendingCount (st : Store) : BitVec 32 :=
  match st.loss with
  | none => 0
  | some p => p.count

/-- The first lost number, 0 with no loss pending (R81). -/
def Store.firstLost (st : Store) : Word :=
  match st.loss with
  | none => 0
  | some p => p.first

/-- A word of the STORE page (R199). -/
def Store.pageWord (st : Store) : Nat → Word
  | 0 => toWord st.records.length
  | 1 => numberOf st.records.head?
  | 2 => numberOf st.records.getLast?
  | 3 => st.next
  | 4 => st.pendingCount.extractLsb' 16 16
  | 5 => st.pendingCount.extractLsb' 0 16
  | 6 => st.firstLost
  | _ => 0

/-- A word of four masks laid one after another, each low word first (R199, R201). -/
def maskPage (m0 m1 m2 m3 : LineMask) (n : Nat) : Word :=
  (maskWords m0 ++ maskWords m1 ++ maskWords m2 ++ maskWords m3).getD n 0

/-- The mask of the lines whose entries satisfy p (R148). -/
def State.alarmMask (s : State) (p : AlarmEntry → Bool) : LineMask :=
  maskOf fun l => s.alarms.entries.any fun e => e.line = l && p e

/-- A word of the ALARM MASKS page (R199). -/
def State.alarmPage (s : State) (n : Nat) : Word :=
  maskPage (s.alarmMask fun e => e.phase = .alert) (s.alarmMask fun e => e.phase = .acked)
    (s.alarmMask fun e => e.phase = .returned) (s.alarmMask fun e => e.silenced) n

/-- The table word an address names, as it stands (R195, R197). -/
def State.tableWord (s : State) (p : PortAddress) : Word :=
  match p.select with
  | 0 => s.lineWord (Fin.ofNat 32 p.index) p.offset
  | 1 => (s.profiles.get (Fin.ofNat 4 p.index)).word p.offset
  | 2 => (s.groups.get (Fin.ofNat 8 p.index)).word p.offset
  | 3 => (s.rules.get (Fin.ofNat 16 p.index)).word p.offset
  | 4 => s.outputWord (Fin.ofNat 8 p.index) p.offset
  | 5 => (s.alarms.escalation.get (Fin.ofNat 4 p.index)).word p.offset
  | 6 => s.store.pageWord p.offset
  | 7 => maskPage s.effectiveMask s.offnormalMask s.armedMask s.chatterMask p.offset
  | 8 => s.alarmPage p.offset
  | _ => 0

/-! ## Words written (R198) -/

/-- What becomes of a write of TABLE DATA (R198). -/
inductive WriteOutcome
  | accepted (s : State)
  | refused (reason : ResultCode)
  | ignored
deriving DecidableEq, Repr

/-- LINE word 0 from a word; none where a field is out of range (Table 43). -/
def LineEntry.setWord0 (e : LineEntry) (w : Word) : Option LineEntry :=
  (AckMode.ofCode (field w 4 2)).map fun m =>
    { e with
      normal := Level.ofBit (bit w 0)
      profile := Fin.ofNat 4 (field w 1 2)
      snapshot := bit w 3
      ackMode := m
      recordDepartures := bit w 6
      recordReturns := bit w 7
      cls := BitVec.ofNat 4 (field w 8 4)
      priority := Fin.ofNat 4 (field w 12 2) }

/-- LINE word 1 from a word; none where a field is out of range (Table 43). -/
def LineEntry.setWord1 (e : LineEntry) (w : Word) : Option LineEntry :=
  match optionOfCode (field w 0 4), optionOfCode (field w 4 4), optionOfCode (field w 8 4) with
  | some g, some d, some r => some { e with group := g, departAction := d, returnAction := r }
  | _, _, _ => none

/-- A word of a PROFILE entry from a word; none where it is out of range (Table 44, R3). -/
def Profile.setWord (p : Profile) (n : Nat) (w : Word) : Option Profile :=
  match n with
  | 0 => some { p with checkTime := w }
  | 1 => if field w 0 4 = 1 then none else some { p with chatterLimit := Fin.ofNat 16 (field w 0 4) }
  | 2 => if w = 0 then none else some { p with chatterWindow := w }
  | 3 => if w = 0 then none else some { p with releaseTime := w }
  | _ => none

/-- RULE word 0 from a word; none where a field is out of range (Table 44). -/
def CorrRule.setWord0 (r : CorrRule) (w : Word) : Option CorrRule :=
  if field w 0 3 < 2 ∨ 4 < field w 0 3 ∨ field w 5 3 < 1 ∨ 4 < field w 5 3 then none
  else
    (optionOfCode (field w 8 4)).map fun a =>
      { r with
        stepCount := field w 0 3
        ordered := bit w 3
        recordLapses := bit w 4
        limit := field w 5 3
        action := a }

/-- A step of a rule from a word (Table 44). -/
def CorrRule.setStep (r : CorrRule) (p : Fin 4) (w : Word) : CorrRule :=
  { r with steps := put r.steps p ⟨Fin.ofNat 32 (field w 0 5), Direction.ofBit (bit w 5)⟩ }

/-- A configuration word of a RULE entry from a word; none where it is out of range (Table 44, R107). -/
def CorrRule.setWord (r : CorrRule) (n : Nat) (w : Word) : Option CorrRule :=
  match n with
  | 0 => r.setWord0 w
  | 1 => some (r.setStep 0 w)
  | 2 => some (r.setStep 1 w)
  | 3 => some (r.setStep 2 w)
  | 4 => some (r.setStep 3 w)
  | 5 => if w = 0 then none else some { r with window := w }
  | 6 => some { r with grace := w }
  | _ => none

/-- OUTPUT word 0 from a word; none where a field is out of range (Table 44, R153); a mode change acts as R164 gives. -/
def OutputLine.setWord0 (o : OutputLine) (w : Word) : Option OutputLine :=
  if 3 < field w 5 3 then none
  else
    (Drive.ofCode (field w 2 2)).map fun d =>
      { o.setMode (OutputMode.ofCode (field w 0 2)) with
        drive := d
        polarity := Polarity.ofBit (bit w 4)
        threshold := Fin.ofNat 4 (field w 5 3)
        retrigger := Retrigger.ofBit (bit w 8) }

/-- A word of an OUTPUT entry from a word; word 4 is cleared by any write (R166). -/
def OutputLine.setWord (o : OutputLine) (n : Nat) (w : Word) : Option OutputLine :=
  match n with
  | 0 => o.setWord0 w
  | 1 => if w = 0 then none else some { o with length := w }
  | 2 => if w = 0 then none else some { o with gap := w }
  | 4 => some { o with dropped := 0 }
  | _ => none

/-- A word of an ESCALATION entry from a word; none where it is out of range (Table 44, R142). -/
def EscalationEntry.setWord (e : EscalationEntry) (n : Nat) (w : Word) : Option EscalationEntry :=
  match n with
  | 0 => if 4095 < w.toNat then none else some { e with time := w }
  | 1 => (optionOfCode (field w 0 4)).map fun a => { e with action := a }
  | _ => none

/-- A write in range is accepted, one out of range refused with BAD OPERAND (R198). -/
def acceptOr {α : Type} (o : Option α) (f : α → State) : WriteOutcome :=
  match o with
  | none => .refused .badOperand
  | some x => .accepted (f x)

/-- Whether an armed line uses a profile (R3). -/
def State.profileInUse (s : State) (p : Fin 4) : Bool :=
  (List.finRange 32).any fun l => (s.lines.get l).armed && (s.lineTable.get l).profile = p

/-- A write to a LINE entry (R4, R39). -/
def writeLineEntry (s : State) (l : LineId) (n : Nat) (w : Word) : WriteOutcome :=
  if 1 < n then .ignored
  else if (s.lines.get l).armed then .refused .tableInUse
  else
    acceptOr (if n = 0 then (s.lineTable.get l).setWord0 w else (s.lineTable.get l).setWord1 w)
      fun e => { s with lineTable := put s.lineTable l e }

/-- A write to a PROFILE entry (R3). -/
def writeProfile (s : State) (p : Fin 4) (n : Nat) (w : Word) : WriteOutcome :=
  if s.profileInUse p then .refused .tableInUse
  else acceptOr ((s.profiles.get p).setWord n w) fun x => { s with profiles := put s.profiles p x }

/-- A write to a GROUP entry (R48, R57). -/
def writeGroup (s : State) (g : GroupId) (n : Nat) (w : Word) : WriteOutcome :=
  if 0 < n then .ignored
  else if (s.groups.get g).phase ≠ .clear then .refused .tableInUse
  else .accepted (s.setGroup g { s.groups.get g with window := w })

/-- A write to a RULE entry (R107, R108). -/
def writeRule (s : State) (r : RuleId) (n : Nat) (w : Word) : WriteOutcome :=
  if 6 < n then .ignored
  else if (s.rules.get r).enabled then .refused .tableInUse
  else acceptOr ((s.rules.get r).setWord n w) fun x => s.setRule r x

/-- A write to an OUTPUT entry (R153, R166). -/
def writeOutput (s : State) (q : OutputId) (n : Nat) (w : Word) : WriteOutcome :=
  if n = 3 then .ignored else acceptOr ((s.outputs.lines.get q).setWord n w) fun o => s.setOutput q o

/-- A write to an ESCALATION entry (R142). -/
def writeEscalation (s : State) (p : Fin 4) (n : Nat) (w : Word) : WriteOutcome :=
  acceptOr ((s.alarms.escalation.get p).setWord n w)
    fun e => { s with alarms := { s.alarms with escalation := put s.alarms.escalation p e } }

/-- A write of TABLE DATA at an address is judged (R198); the pages are read-only (R199). -/
def writeTable (s : State) (p : PortAddress) (w : Word) : WriteOutcome :=
  match p.select with
  | 0 => writeLineEntry s (Fin.ofNat 32 p.index) p.offset w
  | 1 => writeProfile s (Fin.ofNat 4 p.index) p.offset w
  | 2 => writeGroup s (Fin.ofNat 8 p.index) p.offset w
  | 3 => writeRule s (Fin.ofNat 16 p.index) p.offset w
  | 4 => writeOutput s (Fin.ofNat 8 p.index) p.offset w
  | 5 => writeEscalation s (Fin.ofNat 4 p.index) p.offset w
  | _ => .ignored

/-- A refusal sets REFUSED; the reason of the first refusal stands (R196). -/
def refuseWrite (reason : ResultCode) (s : State) : State :=
  { s with tableStatus := match s.tableStatus with
      | none => some reason
      | some r => some r }

/-- The state with a port's address moved to the next word (R195). -/
def stepPort (h : Half) (s : State) : State := { s with ports := s.ports.set h (s.ports.get h).step }

/-- A write of TABLE DATA: judged, and the address steps whatever the outcome (R195, R198). -/
def writeTableData (w : Word) (s : State) : State :=
  stepPort .control
    (match writeTable s s.ports.control w with
     | .accepted t => t
     | .refused reason => refuseWrite reason s
     | .ignored => s)

/-- A write of TABLE ADDRESS or MIRROR ADDRESS: taken when it names a word that exists, else ignored (R194). -/
def writePortAddress (h : Half) (w : Word) (s : State) : State :=
  if (PortAddress.ofWord w).valid then { s with ports := s.ports.set h (PortAddress.ofWord w) } else s

/-- The TABLE STATUS word: the REFUSED flag and the reason (Table 39). -/
def State.tableStatusWord (s : State) : Word :=
  match s.tableStatus with
  | none => 0
  | some r => toWord (1 + 16 * r.code)

/-! ## Meanings -/

/-- TABLE_DATA_READ (R195). -/
def execTableDataRead (s : State) : Host.Outcome State Fault Refusal :=
  .next (readStrobe s (s.tableWord s.ports.control) (stepPort .control s))

/-- MIRROR_DATA_READ (R195, R197). -/
def execMirrorDataRead (s : State) : Host.Outcome State Fault Refusal :=
  .next (readStrobe s (s.tableWord s.ports.archive) (stepPort .archive s))

/-- TABLE_DATA_WRITE (R198). -/
def execTableDataWrite (w : Word) (s : State) : Host.Outcome State Fault Refusal := .next (live s (writeTableData w s))

/-- TABLE_STATUS_READ (R196). -/
def execTableStatusRead (s : State) : Host.Outcome State Fault Refusal :=
  .next (readStrobe s s.tableStatusWord { s with tableStatus := none })

/-- TABLE_ADDRESS_WRITE (R194). -/
def execTableAddressWrite (w : Word) (s : State) : Host.Outcome State Fault Refusal :=
  .next (live s (writePortAddress .control w s))

/-- MIRROR_ADDRESS_WRITE (R194). -/
def execMirrorAddressWrite (w : Word) (s : State) : Host.Outcome State Fault Refusal :=
  .next (live s (writePortAddress .archive w s))

end Sys2Proof.Machine
end

