-- ==== Sys2Proof/Machine/RegisterWindow.lean ====
section
/-! DEFINITION. RegisterWindow: the 64 words of the window as they read (Tables 38 and 39), the words written directly, and the
meanings of TIME_HIGH_READ, STORE_CONTROL_WRITE, TIME_CONTROL_WRITE, OUTPUT_DATA_WRITE, REGISTER_WRITE and BAD_COMMAND. -/
namespace Sys2Proof.Machine

/-! ## Words read -/

/-- The DEVICE STATUS word (Table 39). -/
def State.deviceStatusWord (s : State) : Word :=
  toWord (s.freeContexts + 32 * s.exhausted.toNat + 256 * (s.alarms.entries.length % 64))

/-- The STORE CONTROL word (Table 39). -/
def Store.controlWord (st : Store) : Word :=
  toWord (st.policy.code + 2 * st.loss.isSome.toNat + 4 * st.records.isEmpty.toNat)

/-- The TIME CONTROL word as a half reads it: sync enable, and the quality of that half's latch (Table 39, R184). -/
def State.timeControlWord (s : State) (h : Half) : Word :=
  toWord (s.time.syncEnable.toNat + 16 * (s.time.latches.get h).quality.code)

/-- The ALARM SUMMARY word (Table 39). -/
def AlarmList.summaryWord (a : AlarmList) : Word :=
  toWord (((List.finRange 4).map fun t => (a.summaries.get t).lamp.code * 4 ^ t.val).sum +
    256 * bitsToNat ((List.finRange 4).map fun t => (a.summaries.get t).horn) + 32768 * a.ackRecording.toNat)

/-- The OUTPUT LEVELS word: the computed levels, one position per output (Table 38, note 3). -/
def OutputUnit.levelsWord (u : OutputUnit) : Word := toWord (bitsToNat ((List.finRange 8).map u.computed))

/-- The half a word of the window belongs to (R182). -/
def halfOf (w : WordId) : Half := if w.toNat < 32 then .control else .archive

/-- The word a read of the window returns, as it stands (Tables 38 and 39). The words of the two halves have one
arrangement; word 40 is unassigned. -/
def State.readWord (s : State) (w : WordId) : Word :=
  let h := halfOf w
  match w.toNat % 32 with
  | 0 => 0x4321
  | 1 => s.deviceStatusWord
  | 2 => (s.slots.get h).arg0
  | 3 => (s.slots.get h).arg1
  | 4 => (s.slots.get h).cmd
  | 5 => (s.slots.get h).result
  | 6 => (s.ports.get h).word
  | 7 => s.tableWord (s.ports.get h)
  | 8 =>
    match h with
    | .control => s.tableStatusWord
    | .archive => 0
  | 9 => s.store.controlWord
  | 10 => toWord s.store.free
  | 11 => s.time.counter.extractLsb' 32 16
  | 12 => (s.time.latches.get h).middle
  | 13 => (s.time.latches.get h).low
  | 14 => s.timeControlWord h
  | 15 => s.time.tolerance
  | 16 => s.time.stepLimit
  | 17 => s.time.setHigh
  | 18 => s.alarms.summaryWord
  | 19 => s.outputs.data.setWidth 16
  | 20 => s.outputs.levelsWord
  | 21 => s.channelDataWord h
  | 22 => (s.channels.get h).statusWord
  | 23 => s.cursorWord h
  | 24 => toWord (s.channels.get h).unread
  | 25 => (s.channels.get h).missed
  | 26 => (s.channels.get h).threshold
  | 27 => (s.channels.get h).holdoff
  | 28 => (s.irq.channel.get h).word
  | 29 => s.irq.systemWord h
  | 30 => s.irq.routesWord
  | _ => 0

/-- What the bus carries at a read strobe: 0000h while RESETn is asserted (R183). -/
def State.busRead (s : State) (w : WordId) : Word := if s.inReset then 0 else s.readWord w

/-! ## Words written directly -/

/-- A write of STORE CONTROL: the policy (R79). -/
def writeStoreControl (v : Word) (s : State) : State :=
  { s with store := { s.store with policy := if bit v 0 then .wrap else .hold } }

/-- Sync enable goes On: from Off the quality goes from FREE to ACQUIRING, with no last-pulse reference (R26). -/
def enableSync (s : State) : State :=
  if s.time.syncEnable then s
  else changeQuality .acquiring { s with time := { s.time with syncEnable := true, lastPulse := none } }

/-- Sync enable goes Off: from On the quality goes to FREE, the supervision timer stops and the last-pulse reference is
discarded (R26). -/
def disableSync (s : State) : State :=
  if s.time.syncEnable then
    changeQuality .free { s with time := { s.time with syncEnable := false, lastPulse := none, supervision := none } }
  else s

/-- A write of TIME CONTROL: sync enable (R26). -/
def writeTimeControl (v : Word) (s : State) : State := if bit v 0 then enableSync s else disableSync s

/-- A write of SYNC TOLERANCE: 0 is ignored (R26). -/
def writeTolerance (v : Word) (s : State) : State := if v = 0 then s else { s with time := { s.time with tolerance := v } }

/-- A write of SYNC STEP LIMIT: 0 is ignored (R26). -/
def writeStepLimit (v : Word) (s : State) : State := if v = 0 then s else { s with time := { s.time with stepLimit := v } }

/-- A write of TIME SET HIGH (R32). -/
def writeSetHigh (v : Word) (s : State) : State := { s with time := { s.time with setHigh := v } }

/-- A write of ALARM SUMMARY: the ACK recording control (R140). -/
def writeAckRecording (v : Word) (s : State) : State := { s with alarms := { s.alarms with ackRecording := bit v 15 } }

/-- A write of OUTPUT DATA (R154). -/
def writeOutputData (v : Word) (s : State) : State := { s with outputs := { s.outputs with data := v.setWidth 8 } }

/-- A write of ARG0 (R186). -/
def writeArg0 (h : Half) (v : Word) (s : State) : State := s.setSlot h { s.slots.get h with arg0 := v }

/-- A write of ARG1 (R186). -/
def writeArg1 (h : Half) (v : Word) (s : State) : State := s.setSlot h { s.slots.get h with arg1 := v }

/-- A write to CMD: the command its whole word is the code of, or BAD COMMAND (R186, R187, Table 41). -/
def writeCmd (h : Half) (v : Word) : State → State :=
  match v.toNat with
  | 0x01 => cmdArmLine h
  | 0x02 => cmdDisarmLine h
  | 0x03 => cmdInject h
  | 0x04 => cmdEndInject h
  | 0x08 => cmdGroupReset h
  | 0x0C => cmdRuleEnable h
  | 0x0D => cmdRuleDisable h
  | 0x10 => cmdSetTime h
  | 0x11 => cmdSnapshot h
  | 0x12 => cmdStoreClear h
  | 0x14 => cmdPulse h
  | 0x1F => cmdRestart h
  | 0x20 => cmdAckLine h
  | 0x21 => cmdAckAll h
  | 0x22 => cmdSilence h
  | 0x23 => cmdMark h
  | 0x30 => cmdEnableFromOldest h
  | 0x31 => cmdEnableFromNext h
  | 0x32 => cmdDisableChannel h
  | 0x33 => cmdSkip h
  | 0x34 => cmdReread h
  | _ => takeCommand h v fun _ s => (.badCommand, s)

/-- A write to a word of the control half (Table 38); a read-only or unassigned word is not written (R182). -/
def writeControlWord (n : Nat) (v : Word) (s : State) : State :=
  match n with
  | 2 => writeArg0 .control v s
  | 3 => writeArg1 .control v s
  | 4 => writeCmd .control v s
  | 6 => writePortAddress .control v s
  | 7 => writeTableData v s
  | 9 => writeStoreControl v s
  | 14 => writeTimeControl v s
  | 15 => writeTolerance v s
  | 16 => writeStepLimit v s
  | 17 => writeSetHigh v s
  | 18 => writeAckRecording v s
  | 19 => writeOutputData v s
  | 26 => writeThreshold .control v s
  | 27 => writeHoldoff .control v s
  | 28 => writeChannelCauses .control v s
  | 29 => writeSystemCauses .control v s
  | 30 => writeSystemRoutes v s
  | _ => s

/-- A write to a word of the archive half, numbered from its first word (Table 38, R184). -/
def writeArchiveWord (n : Nat) (v : Word) (s : State) : State :=
  match n with
  | 2 => writeArg0 .archive v s
  | 3 => writeArg1 .archive v s
  | 4 => writeCmd .archive v s
  | 6 => writePortAddress .archive v s
  | 26 => writeThreshold .archive v s
  | 27 => writeHoldoff .archive v s
  | 28 => writeChannelCauses .archive v s
  | 29 => writeSystemCauses .archive v s
  | _ => s

/-- A write to a word of the window (R182, R184). -/
def writeWord (w : WordId) (v : Word) (s : State) : State :=
  match halfOf w with
  | .control => writeControlWord (w.toNat % 32) v s
  | .archive => writeArchiveWord (w.toNat % 32) v s

/-- What a read of TIME HIGH latches: the counter's middle and low words, and the quality (R36). -/
def TimeBase.latchNow (t : TimeBase) : TimeLatch :=
  ⟨t.counter.extractLsb' 16 16, t.counter.extractLsb' 0 16, t.quality⟩

/-- A half's time latch taken at a read of its TIME HIGH (R36). -/
def latchTime (h : Half) (s : State) : State :=
  { s with time := { s.time with latches := s.time.latches.set h s.time.latchNow } }

/-! ## Meanings -/

/-- TIME_HIGH_READ (R36). -/
def execTimeHighRead (h : Half) (s : State) : Host.Outcome State Fault Refusal :=
  .next (readStrobe s (s.time.counter.extractLsb' 32 16) (latchTime h s))

/-- STORE_CONTROL_WRITE (R79). -/
def execStoreControlWrite (v : Word) (s : State) : Host.Outcome State Fault Refusal :=
  .next (live s (writeStoreControl v s))

/-- TIME_CONTROL_WRITE (R26). -/
def execTimeControlWrite (v : Word) (s : State) : Host.Outcome State Fault Refusal :=
  .next (live s (writeTimeControl v s))

/-- OUTPUT_DATA_WRITE (R154). -/
def execOutputDataWrite (v : Word) (s : State) : Host.Outcome State Fault Refusal :=
  .next (live s (writeOutputData v s))

/-- REGISTER_WRITE (R182); a word that has a row of its own is written as its row says (log 11). -/
def execRegisterWrite (w : WordId) (v : Word) (s : State) : Host.Outcome State Fault Refusal :=
  .next (live s (writeWord w v s))

/-- BAD_COMMAND (R187); a value that is a command's code is taken as that command (log 11). -/
def execBadCommand (h : Half) (v : Word) (s : State) : Host.Outcome State Fault Refusal :=
  .next (live s (writeCmd h v s))

end Sys2Proof.Machine
end

