-- ==== Sys2Proof/Machine/Dispatch.lean ====
section
/-! DEFINITION. Dispatch: the meaning of every command of the opcode table, one arm each. -/
namespace Sys2Proof.Machine

def exec (i : Instr) (s : State) : Host.Outcome State Fault Refusal :=
  match i with
  | .fieldLineChange l v => Sys2Proof.Machine.execFieldLineChange l v s
  | .syncPulse => Sys2Proof.Machine.execSyncPulse s
  | .hardwareReset => Sys2Proof.Machine.execHardwareReset s
  | .qualificationExpiry l => Sys2Proof.Machine.execQualificationExpiry l s
  | .chatterWindowExpiry l => Sys2Proof.Machine.execChatterWindowExpiry l s
  | .releaseExpiry l => Sys2Proof.Machine.execReleaseExpiry l s
  | .supervisionExpiry => Sys2Proof.Machine.execSupervisionExpiry s
  | .holdAbsorbed => Sys2Proof.Machine.execHoldAbsorbed s
  | .resolutionTimerExpiry g => Sys2Proof.Machine.execResolutionTimerExpiry g s
  | .lapseTimerExpiry r k => Sys2Proof.Machine.execLapseTimerExpiry r k s
  | .escalationTimerExpiry l => Sys2Proof.Machine.execEscalationTimerExpiry l s
  | .lengthTimerExpiry q => Sys2Proof.Machine.execLengthTimerExpiry q s
  | .gapTimerExpiry q => Sys2Proof.Machine.execGapTimerExpiry q s
  | .holdoffTimerExpiry h => Sys2Proof.Machine.execHoldoffTimerExpiry h s
  | .flashPhase => Sys2Proof.Machine.execFlashPhase s
  | .channelDataRead h => Sys2Proof.Machine.execChannelDataRead h s
  | .channelStatusRead h => Sys2Proof.Machine.execChannelStatusRead h s
  | .timeHighRead h => Sys2Proof.Machine.execTimeHighRead h s
  | .tableDataRead => Sys2Proof.Machine.execTableDataRead s
  | .mirrorDataRead => Sys2Proof.Machine.execMirrorDataRead s
  | .tableDataWrite v => Sys2Proof.Machine.execTableDataWrite v s
  | .tableStatusRead => Sys2Proof.Machine.execTableStatusRead s
  | .tableAddressWrite v => Sys2Proof.Machine.execTableAddressWrite v s
  | .mirrorAddressWrite v => Sys2Proof.Machine.execMirrorAddressWrite v s
  | .storeControlWrite v => Sys2Proof.Machine.execStoreControlWrite v s
  | .timeControlWrite v => Sys2Proof.Machine.execTimeControlWrite v s
  | .outputDataWrite v => Sys2Proof.Machine.execOutputDataWrite v s
  | .readyThresholdWrite h v => Sys2Proof.Machine.execReadyThresholdWrite h v s
  | .readyHoldoffWrite h v => Sys2Proof.Machine.execReadyHoldoffWrite h v s
  | .channelCausesWrite h v => Sys2Proof.Machine.execChannelCausesWrite h v s
  | .systemCausesWrite h v => Sys2Proof.Machine.execSystemCausesWrite h v s
  | .systemRoutesWrite v => Sys2Proof.Machine.execSystemRoutesWrite v s
  | .registerWrite w v => Sys2Proof.Machine.execRegisterWrite w v s
  | .badCommand h v => Sys2Proof.Machine.execBadCommand h v s
  | .armLine h => Sys2Proof.Machine.execArmLine h s
  | .disarmLine h => Sys2Proof.Machine.execDisarmLine h s
  | .inject h => Sys2Proof.Machine.execInject h s
  | .endInject h => Sys2Proof.Machine.execEndInject h s
  | .groupReset h => Sys2Proof.Machine.execGroupReset h s
  | .ruleEnable h => Sys2Proof.Machine.execRuleEnable h s
  | .ruleDisable h => Sys2Proof.Machine.execRuleDisable h s
  | .setTime h => Sys2Proof.Machine.execSetTime h s
  | .snapshot h => Sys2Proof.Machine.execSnapshot h s
  | .storeClear h => Sys2Proof.Machine.execStoreClear h s
  | .pulse h => Sys2Proof.Machine.execPulse h s
  | .restart h => Sys2Proof.Machine.execRestart h s
  | .ackLine h => Sys2Proof.Machine.execAckLine h s
  | .ackAll h => Sys2Proof.Machine.execAckAll h s
  | .silence h => Sys2Proof.Machine.execSilence h s
  | .mark h => Sys2Proof.Machine.execMark h s
  | .channelEnableFromOldest h => Sys2Proof.Machine.execChannelEnableFromOldest h s
  | .channelEnableFromNext h => Sys2Proof.Machine.execChannelEnableFromNext h s
  | .channelDisable h => Sys2Proof.Machine.execChannelDisable h s
  | .channelSkip h => Sys2Proof.Machine.execChannelSkip h s
  | .channelReread h => Sys2Proof.Machine.execChannelReread h s
  | .resetnAsserted => Sys2Proof.Machine.execResetnAsserted s

end Sys2Proof.Machine
end

