-- ==== Sys2Proof/Machine/Step.lean ====
section
/-! DEFINITION. Step: a step of the block takes the command at the front of its queue; with nothing waiting, the part's own time
passes (logs 1 and 2). -/
namespace Sys2Proof.Machine

/-- A command, when its timer is due. -/
def dueOf (s : State) (timer : Option Nat) (c : Instr) : List Instr := if s.timerDue timer then [c] else []

/-- The expiries of a line's timers that are due. -/
def State.dueOfLine (s : State) (l : LineId) : List Instr :=
  let x := s.lines.get l
  dueOf s x.qualTimer (.qualificationExpiry l) ++ dueOf s (x.window.map ChatterWindow.closesAt) (.chatterWindowExpiry l) ++
    dueOf s x.releaseTimer (.releaseExpiry l)

/-- The expiries of a rule's lapse timers that are due. -/
def State.dueOfRule (s : State) (r : RuleId) : List Instr :=
  (s.rules.get r).contexts.zipIdx.flatMap fun x => dueOf s (some x.1.lapsesAt) (.lapseTimerExpiry r x.2)

/-- The expiry of an output's timer that is due: the length timer in PULSING, the gap timer in GAP. -/
def State.dueOfOutput (s : State) (q : OutputId) : List Instr :=
  let o := s.outputs.lines.get q
  match o.phase with
  | .idle => []
  | .pulsing => dueOf s o.timer (.lengthTimerExpiry q)
  | .gap => dueOf s o.timer (.gapTimerExpiry q)

/-- Every timer expiry that is due at this moment (R35). -/
def State.dueCommands (s : State) : List Instr :=
  (List.finRange 32).flatMap s.dueOfLine ++
  dueOf s s.time.supervision .supervisionExpiry ++
  (List.finRange 8).flatMap (fun g => dueOf s (s.groups.get g).timer (.resolutionTimerExpiry g)) ++
  (List.finRange 16).flatMap s.dueOfRule ++
  s.alarms.entries.flatMap (fun e => dueOf s e.timer (.escalationTimerExpiry e.line)) ++
  (List.finRange 8).flatMap s.dueOfOutput ++
  [Half.control, Half.archive].flatMap (fun h => dueOf s (s.channels.get h).holdoffTimer (.holdoffTimerExpiry h))

/-- One of several commands, as a free value chooses (log 4). -/
def chosenOf (first : Instr) (rest : List Instr) (index : Nat) : Instr :=
  (first :: rest).getD (Config.dueChoice index % (rest.length + 1)) first

/-- What happens with no command waiting (log 2): a due timer expires, one of them where several are due together; with none
due, one microsecond passes. While RESETn is asserted or CLK is stopped nothing happens (R183, R203). -/
def idle (s : State) : Host.Outcome State Fault Refusal :=
  if s.inReset || !s.clockRunning then .next s
  else
    match s.dueCommands with
    | [] => .next (tick s)
    | [c] => exec c s
    | c :: d :: rest => exec (chosenOf c (d :: rest) s.freeIndex) { s with freeIndex := s.freeIndex + 1 }

/-- A step: the command at the front of the queue is taken, whole, on the state with the queue's rest (R188; log 1). -/
def step (s : State) : Host.Outcome State Fault Refusal :=
  match s.pending with
  | [] => idle s
  | c :: rest => exec c { s with pending := rest }

/-- The state with the command a word spells put at the front of the queue; no word spells one. -/
def State.withFetchWord (s : State) (nbits w : Nat) : State :=
  match decodeTableWord nbits w with
  | none => s
  | some c => { s with pending := c :: s.pending }

end Sys2Proof.Machine
end

