-- ==== Sys2Proof/Safety.lean ====
section
/-! DEFINITION. Safety: what the part keeps true of its state, block by block, in the terms the statements use. -/
namespace Sys2Proof.Machine

/-! ## The store (Chapter 4) -/

/-- The store keeps its reserve: at least 5 free words (R68). -/
def Store.keepsReserve (st : Store) : Prop := wordsOf st.records + 5 ≤ 4096

/-- Record b stands next after record a: its number is one more, or for a LOSS record one more than the count it carries,
from the first lost number on (R67, R71). -/
def Record.follows (b a : Record) : Prop :=
  match b.body with
  | .loss first count => first = a.number + 1 ∧ b.number = first + count.setWidth 16
  | _ => b.number = a.number + 1

/-- Every record of a list follows the one before it. -/
def numbered : List Record → Prop
  | [] => True
  | [_] => True
  | a :: b :: rest => b.follows a ∧ numbered (b :: rest)

/-- Every taking of an append is accounted for (R67, R70): the records' numbers rise as `Record.follows` says, and the Next
Number follows the newest record, or the last lost number of the pending loss, whose first follows the newest record. -/
def Store.accounts (st : Store) : Prop :=
  numbered st.records ∧
  match st.loss with
  | none => ∀ r, st.records.getLast? = some r → st.next = r.number + 1
  | some p => st.next = p.first + p.count.setWidth 16 ∧ ∀ r, st.records.getLast? = some r → p.first = r.number + 1

/-! ## Channels (Chapter 5) -/

/-- A channel's own state is legal (Table 23, R86, R102). -/
def Channel.legal (c : Channel) : Prop :=
  (c.enabled = false → c.unread = 0) ∧ (c.unread = 0 → c.offset = 0 ∧ c.holdoffTimer = none) ∧
  (c.holdoff = 0 → c.holdoffTimer = none) ∧ 1 ≤ c.threshold.toNat ∧ c.threshold.toNat ≤ 255

/-- A half's channel is legal, its cursor is on a record held or at end (R86), and its offset is below the length of the
cursor's record (Table 23). -/
def State.channelLegal (s : State) (h : Half) : Prop :=
  (s.channels.get h).legal ∧ (s.channels.get h).unread ≤ s.store.records.length ∧
  ∀ r ∈ s.cursorRecord h, (s.channels.get h).offset < r.len

/-! ## The Time Base (Chapter 2) -/

/-- Sync enable and quality agree (Table 11, R26), the sync configuration is in range (R26), and the supervision timer runs
only with sync enable On and never in HOLDOVER (R31). -/
def TimeBase.legal (t : TimeBase) : Prop :=
  (t.syncEnable = false ↔ t.quality = .free) ∧ t.tolerance ≠ 0 ∧ t.stepLimit ≠ 0 ∧
  (t.syncEnable = false → t.supervision = none ∧ t.lastPulse = none) ∧ (t.quality = .holdover → t.supervision = none)

/-! ## Lines (Chapter 1) -/

/-- What a line holds agrees with its conditioning state (Table 7, R6 to R16), and its effective level is the injected or
the physical level (R1). -/
def LineState.legal (x : LineState) (normal : Level) : Prop :=
  x.effective = x.presentLevel ∧
  match x.cond with
  | .disarmed => x.qualified = none ∧ x.edge = none ∧ x.qualTimer = none ∧ x.window = none ∧ x.releaseTimer = none ∧
      x.injected = none
  | .settling => x.qualified = none ∧ x.edge = none ∧ x.qualTimer.isSome ∧ x.window = none ∧ x.releaseTimer = none
  | .normal => x.qualified = some normal ∧ x.effective = normal ∧ x.edge = none ∧ x.qualTimer = none ∧ x.releaseTimer = none
  | .departing => x.qualified = some normal ∧ x.effective = normal.flip ∧ x.edge.isSome ∧ x.qualTimer.isSome ∧
      x.releaseTimer = none
  | .offnormal => x.qualified = some normal.flip ∧ x.effective = normal.flip ∧ x.edge = none ∧ x.qualTimer = none ∧
      x.releaseTimer = none
  | .returning => x.qualified = some normal.flip ∧ x.effective = normal ∧ x.edge.isSome ∧ x.qualTimer.isSome ∧
      x.releaseTimer = none
  | .chatter => x.qualified.isSome ∧ x.edge = none ∧ x.qualTimer = none ∧ x.window = none ∧ x.releaseTimer.isSome ∧
      x.lastChange.isSome

/-! ## Groups (Chapter 3) -/

/-- What a group holds agrees with its state (Table 18, R49 to R54). -/
def FirstOutGroup.legal (x : FirstOutGroup) : Prop :=
  match x.phase with
  | .clear => x = FirstOutGroup.cleared x.window
  | .resolving => x.candidates ≠ [] ∧ (x.candidates.map Candidate.line).Nodup ∧ x.timer.isSome ∧ x.firstOut = none
  | .tripped => x.candidates = [] ∧ x.timer = none ∧ x.firstOut.isSome

/-! ## Rules (Chapter 6) -/

/-- A rule is in range, holds at most its limit of open contexts, none while disabled, and none of them is complete (Table
27, R109, R114, R123). -/
def CorrRule.legal (r : CorrRule) : Prop :=
  2 ≤ r.stepCount ∧ r.stepCount ≤ 4 ∧ 1 ≤ r.limit ∧ r.limit ≤ 4 ∧ r.window ≠ 0 ∧ r.contexts.length ≤ r.limit ∧
  (r.enabled = false → r.contexts = []) ∧ ∀ c ∈ r.contexts, c.heldSteps.length < r.stepCount

/-- The pool holds no more than 24 contexts, and an exhaustion episode stands only while all are open (R109, R117). -/
def State.poolLegal (s : State) : Prop := s.openContexts ≤ 24 ∧ (s.exhausted = true → s.openContexts = 24)

/-! ## Alarms (Chapter 7) -/

/-- At most one entry for each line (R130), an escalation timer only in ALERT (R143), and the summaries those of the entries
(R146). -/
def AlarmList.legal (a : AlarmList) : Prop :=
  (a.entries.map AlarmEntry.line).Nodup ∧ (∀ e ∈ a.entries, e.phase ≠ .alert → e.timer = none) ∧
  a.summaries = summariesOf a.entries

/-! ## Outputs (Chapter 8) -/

/-- An output's pulse state is legal (Table 34, R159, R164): outside PULSE mode IDLE, no timer and nothing queued in IDLE, a
timer in PULSING and GAP, at most 15 requests held; and its pulse times are above 0 (Table 33). -/
def OutputLine.legal (o : OutputLine) : Prop :=
  (o.mode ≠ .pulse → o.phase = .idle) ∧ (o.phase = .idle → o.timer = none ∧ o.queued = 0) ∧
  (o.phase ≠ .idle → o.timer.isSome) ∧ o.queued ≤ 15 ∧ o.length ≠ 0 ∧ o.gap ≠ 0

/-! ## Reset (section 10.4) -/

/-- While RESETn is asserted every block holds its hardware reset values (R183). -/
def State.resetHeld (s : State) : Prop := s.inReset = true → s = holdInReset s

/-- The read strobes that have rows of their own (R185). -/
def isReadStrobe : Instr → Bool
  | .channelDataRead _ => true
  | .channelStatusRead _ => true
  | .timeHighRead _ => true
  | .tableDataRead => true
  | .mirrorDataRead => true
  | .tableStatusRead => true
  | _ => false

/-- The rows that still act while RESETn is asserted: its two edges, and the sampling of a field input (R22, R193). -/
def actsInReset : Instr → Bool
  | .fieldLineChange _ _ => true
  | .hardwareReset => true
  | .resetnAsserted => true
  | _ => false

/-- The words of the control half that Table 38 gives a value after hardware reset, with that value. -/
def resetWords : List (Nat × Word) :=
  [(0, 0x4321), (1, 0x0018), (2, 0), (3, 0), (4, 0), (5, 0), (6, 0), (8, 0), (9, 0), (10, 4090), (11, 0), (12, 0), (13, 0)] ++
  [(14, 0), (15, 100), (16, 1000), (17, 0), (18, 0x8000), (19, 0), (20, 0), (22, 0x0002), (23, 0), (24, 0), (25, 0)] ++
  [(26, 1), (27, 0), (28, 0), (29, 0), (30, 0), (31, 0)]

/-! ## What a command leaves alone -/

/-- t differs from s only in what appending records changes: the records, numbers and pending loss of the store, the
channels' cursors, offsets, missed counts and holdoff timers, and the channels' cause flags (R66 to R78, R87 to R89). -/
structure OnlyReports (s t : State) : Prop where
  lines : t.lines = s.lines
  lineTable : t.lineTable = s.lineTable
  profiles : t.profiles = s.profiles
  time : t.time = s.time
  groups : t.groups = s.groups
  rules : t.rules = s.rules
  exhausted : t.exhausted = s.exhausted
  alarms : t.alarms = s.alarms
  outputs : t.outputs = s.outputs
  slots : t.slots = s.slots
  ports : t.ports = s.ports
  tableStatus : t.tableStatus = s.tableStatus
  inReset : t.inReset = s.inReset
  clockRunning : t.clockRunning = s.clockRunning
  lastRead : t.lastRead = s.lastRead
  freeIndex : t.freeIndex = s.freeIndex
  pending : t.pending = s.pending
  policy : t.store.policy = s.store.policy
  enabled : ∀ h, (t.channels.get h).enabled = (s.channels.get h).enabled
  threshold : ∀ h, (t.channels.get h).threshold = (s.channels.get h).threshold
  holdoff : ∀ h, (t.channels.get h).holdoff = (s.channels.get h).holdoff
  torn : ∀ h, (t.channels.get h).torn = (s.channels.get h).torn
  emptyRead : ∀ h, (t.channels.get h).emptyRead = (s.channels.get h).emptyRead
  system : t.irq.system = s.irq.system
  routes : t.irq.routes = s.irq.routes
  enables : ∀ h, (t.irq.channel.get h).enables = (s.irq.channel.get h).enables

/-- t differs from s, the lines apart, only in what the handling of events changes: records as in `OnlyReports`, the system
cause flags, the groups' states, the rules' contexts and counts, the alarm entries and summaries, the outputs' pulse
states, dropped counters and held summaries, and the free choices used. Every configuration table and word stands, and so
do the time, the slots, the ports and the table status. -/
structure OnlyEvents (s t : State) : Prop where
  lineTable : t.lineTable = s.lineTable
  profiles : t.profiles = s.profiles
  time : t.time = s.time
  slots : t.slots = s.slots
  ports : t.ports = s.ports
  tableStatus : t.tableStatus = s.tableStatus
  inReset : t.inReset = s.inReset
  clockRunning : t.clockRunning = s.clockRunning
  lastRead : t.lastRead = s.lastRead
  pending : t.pending = s.pending
  windows : ∀ g, (t.groups.get g).window = (s.groups.get g).window
  ruleTable : ∀ r, t.rules.get r = { s.rules.get r with
    matchCount := (t.rules.get r).matchCount
    lapseCount := (t.rules.get r).lapseCount
    missedStarts := (t.rules.get r).missedStarts
    contexts := (t.rules.get r).contexts }
  escalation : t.alarms.escalation = s.alarms.escalation
  ackRecording : t.alarms.ackRecording = s.alarms.ackRecording
  outputTable : ∀ q, t.outputs.lines.get q = { s.outputs.lines.get q with
    phase := (t.outputs.lines.get q).phase
    timer := (t.outputs.lines.get q).timer
    queued := (t.outputs.lines.get q).queued
    dropped := (t.outputs.lines.get q).dropped }
  data : t.outputs.data = s.outputs.data
  flash : t.outputs.flash = s.outputs.flash
  policy : t.store.policy = s.store.policy
  enabled : ∀ h, (t.channels.get h).enabled = (s.channels.get h).enabled
  threshold : ∀ h, (t.channels.get h).threshold = (s.channels.get h).threshold
  holdoff : ∀ h, (t.channels.get h).holdoff = (s.channels.get h).holdoff
  torn : ∀ h, (t.channels.get h).torn = (s.channels.get h).torn
  emptyRead : ∀ h, (t.channels.get h).emptyRead = (s.channels.get h).emptyRead
  routes : t.irq.routes = s.irq.routes
  enables : ∀ h, (t.irq.channel.get h).enables = (s.irq.channel.get h).enables

end Sys2Proof.Machine
end

