-- ==== Sys2Proof/WellFormed.lean ====
section
/-! DEFINITION. WellFormed: which commands name an occurrence their row describes. Every operand that is a line, a group,
a rule, an output or a half is in range by its type; what is left is checked here. -/
namespace Sys2Proof

/-- A command is well formed when its operands are those its row admits. -/
def Instr.wf : Instr → Bool
  | .lapseTimerExpiry _ place => place < 4
  | .registerWrite word _ => !wordsWithOwnRow.contains word
  | .badCommand _ value => !commandCodes.contains value
  | .fieldLineChange _ _ | .syncPulse | .hardwareReset | .qualificationExpiry _ | .chatterWindowExpiry _ | .releaseExpiry _
  | .supervisionExpiry | .holdAbsorbed | .resolutionTimerExpiry _ | .escalationTimerExpiry _ | .lengthTimerExpiry _
  | .gapTimerExpiry _ | .holdoffTimerExpiry _ | .flashPhase | .channelDataRead _ | .channelStatusRead _ | .timeHighRead _
  | .tableDataRead | .mirrorDataRead | .tableDataWrite _ | .tableStatusRead | .tableAddressWrite _ | .mirrorAddressWrite _
  | .storeControlWrite _ | .timeControlWrite _ | .outputDataWrite _ | .readyThresholdWrite _ _ | .readyHoldoffWrite _ _
  | .channelCausesWrite _ _ | .systemCausesWrite _ _ | .systemRoutesWrite _ | .armLine _ | .disarmLine _ | .inject _
  | .endInject _ | .groupReset _ | .ruleEnable _ | .ruleDisable _ | .setTime _ | .snapshot _ | .storeClear _ | .pulse _
  | .restart _ | .ackLine _ | .ackAll _ | .silence _ | .mark _ | .channelEnableFromOldest _ | .channelEnableFromNext _
  | .channelDisable _ | .channelSkip _ | .channelReread _ | .resetnAsserted => true

end Sys2Proof
end

