-- ==== Sys2Proof/Certificates/Slice0/Obligations.lean ====
section
/-! DEFINITION. Obligations: the statements for the provers. Each says what a command does, when it completes and what it leaves alone,
or what every step keeps. -/
open Sys2Proof Sys2Proof.Machine

/-! ## The queue and the clock -/

/-- A step with commands waiting takes the one at the front, on the state with the queue's rest (R188: a command is taken
whole; the queue's order is the model's, log 1). -/
def Obligations.StepTakesFrontCommand : Prop :=
  ∀ (c : Instr) (rest : List Instr) (s : State), step { s with pending := c :: rest } = exec c { s with pending := rest }

/-- Every command in every state answers a next state, and so does every step: nothing stops the part (R182, R187). No
command touches the queue or CLK (logs 1 and 9). -/
def Obligations.EveryCommandAnswersNext : Prop :=
  (∀ (c : Instr) (s : State), ∃ t, exec c s = .next t ∧ t.pending = s.pending ∧ t.clockRunning = s.clockRunning) ∧
  ∀ s : State, ∃ t, step s = .next t

/-- With nothing waiting and no timer due, a step is one microsecond: the counter advances, or a hold is reduced (R25, R29), and
the flash phase runs (R155); with CLK stopped or RESETn asserted nothing passes (R183, R203). That a step with an empty queue
is a microsecond is the model's choice (log 2).
With nothing waiting, a due timer expires: the only one that is due, or one of those due together, whichever the free
value chooses (R35; either may be taken first, R8, R118; logs 2 and 4). The due expiries are those of the timers that run and
whose moment has come, and no others. -/
def Obligations.EmptyQueueLetsTimePass : Prop :=
  (∀ s : State, s.pending = [] → s.dueCommands = [] →
     (s.inReset = false → s.clockRunning = true → s.time.hold = 0 →
       step s = .next { s with
         time := { s.time with elapsed := s.time.elapsed + 1, counter := satAdvance s.time.counter 1 }
         outputs := { s.outputs with flash := (s.outputs.flash + 1) % 1000000 } }) ∧
     (s.inReset = false → s.clockRunning = true → s.time.hold ≠ 0 →
       step s = .next { s with
         time := { s.time with elapsed := s.time.elapsed + 1, hold := s.time.hold - 1 }
         outputs := { s.outputs with flash := (s.outputs.flash + 1) % 1000000 } }) ∧
     ((s.inReset = true ∨ s.clockRunning = false) → step s = .next s)) ∧
  (∀ s : State, s.pending = [] → s.inReset = false → s.clockRunning = true →
     (∀ c, s.dueCommands = [c] → step s = exec c s) ∧
     (2 ≤ s.dueCommands.length → ∃ c ∈ s.dueCommands, step s = exec c { s with freeIndex := s.freeIndex + 1 })) ∧
  (∀ s : State,
     (∀ l, Instr.qualificationExpiry l ∈ s.dueCommands ↔ ∃ m, (s.lines.get l).qualTimer = some m ∧ m ≤ s.time.elapsed) ∧
     (∀ l, Instr.chatterWindowExpiry l ∈ s.dueCommands ↔
       ∃ w, (s.lines.get l).window = some w ∧ w.closesAt ≤ s.time.elapsed) ∧
     (∀ l, Instr.releaseExpiry l ∈ s.dueCommands ↔ ∃ m, (s.lines.get l).releaseTimer = some m ∧ m ≤ s.time.elapsed) ∧
     (Instr.supervisionExpiry ∈ s.dueCommands ↔ ∃ m, s.time.supervision = some m ∧ m ≤ s.time.elapsed) ∧
     (∀ g, Instr.resolutionTimerExpiry g ∈ s.dueCommands ↔ ∃ m, (s.groups.get g).timer = some m ∧ m ≤ s.time.elapsed) ∧
     (∀ r i, Instr.lapseTimerExpiry r i ∈ s.dueCommands ↔
       ∃ c, (s.rules.get r).contexts[i]? = some c ∧ c.lapsesAt ≤ s.time.elapsed) ∧
     (∀ l, Instr.escalationTimerExpiry l ∈ s.dueCommands ↔
       ∃ e ∈ s.alarms.entries, e.line = l ∧ ∃ m, e.timer = some m ∧ m ≤ s.time.elapsed) ∧
     (∀ q, Instr.lengthTimerExpiry q ∈ s.dueCommands ↔ (s.outputs.lines.get q).phase = .pulsing ∧
       ∃ m, (s.outputs.lines.get q).timer = some m ∧ m ≤ s.time.elapsed) ∧
     (∀ q, Instr.gapTimerExpiry q ∈ s.dueCommands ↔ (s.outputs.lines.get q).phase = .gap ∧
       ∃ m, (s.outputs.lines.get q).timer = some m ∧ m ≤ s.time.elapsed) ∧
     (∀ h, Instr.holdoffTimerExpiry h ∈ s.dueCommands ↔
       ∃ m, (s.channels.get h).holdoffTimer = some m ∧ m ≤ s.time.elapsed) ∧
     (∀ c ∈ s.dueCommands, c = .supervisionExpiry ∨ (∃ l, c = .qualificationExpiry l ∨ c = .chatterWindowExpiry l ∨
       c = .releaseExpiry l ∨ c = .escalationTimerExpiry l) ∨ (∃ g, c = .resolutionTimerExpiry g) ∨
       (∃ r i, c = .lapseTimerExpiry r i) ∨ (∃ q, c = .lengthTimerExpiry q ∨ c = .gapTimerExpiry q) ∨
       ∃ h, c = .holdoffTimerExpiry h))

/-! ## Reset -/

/-- The release of RESETn: every block at its hardware reset values, the counter and the flash phase at 0, the RESTART record
number 0, no cause, both channels disabled, no line armed, the words as Table 38 gives (R193). The physical levels, CLK, the
last value read, the free choices and the queue are kept (logs 7 to 9 and 21). With CLK stopped the edge is not sampled (R202). -/
def Obligations.HardwareResetRestoresValues : Prop :=
  (∀ s : State, s.clockRunning = false → exec .hardwareReset s = .next s) ∧
  ∀ s : State, s.clockRunning = true → ∃ t, exec .hardwareReset s = .next t ∧
    t = { State.reset with
      lines := s.lines.map fun x => LineState.reset x.physical
      clockRunning := s.clockRunning
      lastRead := s.lastRead
      freeIndex := s.freeIndex
      pending := s.pending } ∧
    t.time.counter = 0 ∧ t.time.quality = .free ∧ t.outputs.flash = 0 ∧
    t.store.records = [⟨0, ⟨0, .free⟩, false, .restart .reset⟩] ∧ t.store.next = 1 ∧ t.store.loss = none ∧
    (∀ h, (t.channels.get h).enabled = false ∧ (t.channels.get h).unread = 0) ∧
    (∀ h c, t.channelCauseSet h c = false) ∧ (∀ c, t.causeSet c = false) ∧ (∀ h, t.irqAsserted h = false) ∧
    (∀ l, (t.lines.get l).cond = .disarmed) ∧
    (∀ p ∈ resetWords, t.busRead (BitVec.ofNat 6 p.1) = p.2 ∧ t.busRead (BitVec.ofNat 6 (p.1 + 32)) = p.2)

/-- RESETn asserted: every block holds its hardware reset values, no timer runs, both request outputs and every output pin are
released, every read returns 0000h, and time stands (R183). With CLK stopped the edge is not sampled (R202).
While RESETn is asserted a read strobe returns 0000h and changes nothing else, and every other access, command, pulse and
expiry is not taken (R183); a field input is sampled into its line's reset values (R22, log 20). -/
def Obligations.ResetnAssertedHoldsValues : Prop :=
  (∀ s : State, s.clockRunning = false → exec .resetnAsserted s = .next s) ∧
  (∀ s : State, s.clockRunning = true → ∃ t, exec .resetnAsserted s = .next t ∧
     t = { State.held with
       lines := s.lines.map fun x => LineState.reset x.physical
       clockRunning := s.clockRunning
       lastRead := s.lastRead
       freeIndex := s.freeIndex
       pending := s.pending } ∧
     (∀ h, t.irqAsserted h = false ∧ t.requestPin h = .released) ∧ (∀ q, t.outputPin q = .released) ∧
     (∀ w, t.busRead w = 0) ∧
     t.dueCommands = [] ∧ (t.pending = [] → step t = .next t)) ∧
  (∀ (c : Instr) (s : State), s.inReset = true →
     (isReadStrobe c = true → exec c s = .next { s with lastRead := 0 }) ∧
     (isReadStrobe c = false → actsInReset c = false → exec c s = .next s) ∧
     (∀ l v, c = .fieldLineChange l v → s.clockRunning = true → exec c s = .next (s.setLine l (LineState.reset v))))

/-- Every step keeps this: while RESETn is asserted every block holds its hardware reset values (R183). -/
def Obligations.ResetValuesHeldByEveryStep : Prop :=
  ∀ s t : State, s.resetHeld → step s = .next t → t.resetHeld

/-- Every invariant stated here holds of the state after reset (R22, R68, R86, R105, R109, R127, R149, R168, R194). -/
def Obligations.InvariantsHoldAtReset : Prop :=
  State.reset.resetHeld ∧ State.reset.store.keepsReserve ∧ State.reset.store.accounts ∧
  (∀ h, State.reset.channelLegal h) ∧ State.reset.time.legal ∧
  (∀ l, (State.reset.lines.get l).legal (State.reset.lineTable.get l).normal) ∧
  (∀ g, (State.reset.groups.get g).legal) ∧ (∀ r, (State.reset.rules.get r).legal) ∧ State.reset.poolLegal ∧
  State.reset.alarms.legal ∧ State.reset.outputs.handed = summariesOf State.reset.alarms.entries ∧
  (∀ q, (State.reset.outputs.lines.get q).legal) ∧ (∀ h, (State.reset.ports.get h).valid = true)

/-! ## The Event Store (Chapter 4) -/

/-- Every step keeps at least 5 free words in the store (R68), and keeps its numbers accounted for: adjacent numbers rise by
one, before a LOSS record by one more than its count, and the Next Number follows (R67, R70, R71). -/
def Obligations.StoreReserveAndNumbersKept : Prop :=
  (∀ s t : State, s.store.keepsReserve → step s = .next t → t.store.keepsReserve) ∧
  ∀ s t : State, s.store.accounts → step s = .next t → t.store.accounts

/-- A request that meets the test of R68 is accepted: the LOSS record first where a loss is pending (R71), then the record with
the number after it, which is the number returned (R66, R69). The policy does not matter (R74).
Under HOLD a request that does not meet the test of R68 is refused: it takes its number and its record is discarded (R69).
With no loss pending it opens one and each enabled channel sets its LOSS cause (R70, R89); with one pending it extends it, and
nothing but the store changes (R70). -/
def Obligations.AppendIsTakenWhole : Prop :=
  (∀ (stamp : Stamp) (test : Bool) (body : Body) (s : State),
     (s.store.loss = none → body.len + 5 ≤ s.store.free →
       (append stamp test body s).1 = s.store.next ∧
       (append stamp test body s).2.store = { s.store with
         records := s.store.records ++ [⟨s.store.next, stamp, test, body⟩]
         tail := s.store.tail + BitVec.ofNat 12 body.len
         next := s.store.next + 1 }) ∧
     (∀ p, s.store.loss = some p → body.len + 13 ≤ s.store.free →
       (append stamp test body s).1 = s.store.next + 1 ∧
       (append stamp test body s).2.store = { s.store with
         records := s.store.records ++
           [⟨s.store.next, p.stamp, false, .loss p.first p.count⟩, ⟨s.store.next + 1, stamp, test, body⟩]
         tail := s.store.tail + 8 + BitVec.ofNat 12 body.len
         next := s.store.next + 2
         loss := none })) ∧
  (∀ (stamp : Stamp) (test : Bool) (body : Body) (s : State), s.store.policy = .hold → s.store.free < s.store.need body.len →
     (append stamp test body s).1 = s.store.next ∧
     (s.store.loss = none →
       (append stamp test body s).2.store =
         { s.store with next := s.store.next + 1, loss := some ⟨s.store.next, 1, stamp⟩ } ∧
       (append stamp test body s).2.channels = s.channels ∧
       ∀ h, (append stamp test body s).2.channelCauseSet h .loss =
         ((s.channels.get h).enabled || s.channelCauseSet h .loss)) ∧
     (∀ p, s.store.loss = some p →
       (append stamp test body s).2 =
         { s with store := { s.store with next := s.store.next + 1, loss := some { p with count := p.count + 1 } } }))

/-- Under WRAP a request that does not meet the test drops the fewest records, from the oldest, whose removal meets it, where
no channel pins one of them, and is then accepted, the LOSS record first where a loss is pending (R71, R74); where one is
pinned it drops none and is refused, which opens or extends the pending loss (R70, R74). A record is pinned by an enabled
channel that has its cursor on it with an offset above 0 (R73). -/
def Obligations.WrapDropsTheFewestUnpinned : Prop :=
  (∀ (stamp : Stamp) (test : Bool) (body : Body) (s : State), s.store.policy = .wrap → s.store.free < s.store.need body.len →
     wordsOf s.store.records ≤ 4096 →
     ∃ n, s.store.need body.len ≤ s.store.free + wordsOf (s.store.records.take n) ∧
       (∀ m, m < n → s.store.free + wordsOf (s.store.records.take m) < s.store.need body.len) ∧
       (s.pinnedWithin n = false → s.store.loss = none →
         (append stamp test body s).1 = s.store.next ∧
         (append stamp test body s).2.store.records = s.store.records.drop n ++ [⟨s.store.next, stamp, test, body⟩] ∧
         (append stamp test body s).2.store.next = s.store.next + 1 ∧ (append stamp test body s).2.store.loss = none) ∧
       (∀ p, s.pinnedWithin n = false → s.store.loss = some p →
         (append stamp test body s).1 = s.store.next + 1 ∧
         (append stamp test body s).2.store.records = s.store.records.drop n ++
           [⟨s.store.next, p.stamp, false, .loss p.first p.count⟩, ⟨s.store.next + 1, stamp, test, body⟩] ∧
         (append stamp test body s).2.store.next = s.store.next + 2 ∧ (append stamp test body s).2.store.loss = none) ∧
       (s.pinnedWithin n = true →
         (append stamp test body s).1 = s.store.next ∧
         (append stamp test body s).2.store.records = s.store.records ∧
         (append stamp test body s).2.store.next = s.store.next + 1 ∧
         (s.store.loss = none → (append stamp test body s).2.store.loss = some ⟨s.store.next, 1, stamp⟩) ∧
         (∀ p, s.store.loss = some p →
           (append stamp test body s).2.store.loss = some { p with count := p.count + 1 }))) ∧
  (∀ (s : State) (n : Nat), s.pinnedWithin n = true ↔ ∃ h, (s.channels.get h).enabled = true ∧ 0 < (s.channels.get h).offset ∧
     (s.channels.get h).unread ≠ 0 ∧ s.store.records.length - (s.channels.get h).unread < n)

/-- A written record is announced to both channels: an enabled one counts it, a cursor at end moving onto it; the count's rise to
the threshold sets READY, and its rise from 0 starts a nonzero holdoff; a disabled channel ignores it (R87, R101, R102).
A drop removes the oldest record. A channel whose cursor is on it moves to the record that follows with offset 0, counts it
missed and sets MISSED; any other channel stands as it did (R75, R88). -/
def Obligations.NoticesMoveTheCursors : Prop :=
  (∀ (stamp : Stamp) (test : Bool) (body : Body) (s : State) (h : Half),
     ((s.channels.get h).enabled = true →
       (writeRecord stamp test body s).channels.get h = { s.channels.get h with
         unread := (s.channels.get h).unread + 1
         offset := if (s.channels.get h).unread = 0 then 0 else (s.channels.get h).offset
         holdoffTimer :=
           if (s.channels.get h).unread = 0 ∧ (s.channels.get h).holdoff ≠ 0 then
             some (s.time.elapsed + 1000 * (s.channels.get h).holdoff.toNat)
           else (s.channels.get h).holdoffTimer } ∧
       (writeRecord stamp test body s).channelCauseSet h .ready =
         (s.channelCauseSet h .ready || decide ((s.channels.get h).unread + 1 = (s.channels.get h).threshold.toNat))) ∧
     ((s.channels.get h).enabled = false →
       (writeRecord stamp test body s).channels.get h = s.channels.get h ∧
       (writeRecord stamp test body s).irq.channel.get h = s.irq.channel.get h)) ∧
  (∀ (s : State) (h : Half),
     (dropOldest s).store.records = s.store.records.drop 1 ∧
     ((s.channels.get h).enabled = true → (s.channels.get h).unread ≠ 0 →
       (s.channels.get h).unread = s.store.records.length →
       ((dropOldest s).channels.get h).unread = (s.channels.get h).unread - 1 ∧
       ((dropOldest s).channels.get h).offset = 0 ∧
       ((dropOldest s).channels.get h).missed = satInc (s.channels.get h).missed ∧
       (dropOldest s).channelCauseSet h .missed = true) ∧
     ((s.channels.get h).enabled = false ∨ (s.channels.get h).unread = 0 ∨
       (s.channels.get h).unread ≠ s.store.records.length →
       (dropOldest s).channels.get h = s.channels.get h ∧
       ∀ c, (dropOldest s).channelCauseSet h c = s.channelCauseSet h c))

/-- A reclaim removes, from the oldest end, the records that every enabled channel has consumed, and none with no channel
enabled (R76 to R78); a pending LOSS record is written when one was removed and 13 words are free (R77). -/
def Obligations.ReclaimRemovesTheConsumed : Prop :=
  ∀ (s : State) (n : Nat),
    (s.channels.control.enabled = false ∧ s.channels.archive.enabled = false → n = 0) →
    (s.channels.control.enabled = true ∧ s.channels.archive.enabled = false →
      n = s.store.records.length - s.channels.control.unread) →
    (s.channels.control.enabled = false ∧ s.channels.archive.enabled = true →
      n = s.store.records.length - s.channels.archive.unread) →
    (s.channels.control.enabled = true ∧ s.channels.archive.enabled = true →
      n = s.store.records.length - max s.channels.control.unread s.channels.archive.unread) →
    (s.store.loss = none ∨ n = 0 ∨ 4096 - wordsOf (s.store.records.drop n) < 13 →
      reclaim s = { s with store := { s.store with records := s.store.records.drop n } }) ∧
    (∀ p, s.store.loss = some p → 0 < n → 13 ≤ 4096 - wordsOf (s.store.records.drop n) →
      (reclaim s).store.records =
        s.store.records.drop n ++ [⟨s.store.next, p.stamp, false, .loss p.first p.count⟩] ∧
      (reclaim s).store.loss = none ∧ (reclaim s).store.next = s.store.next + 1)

/-- SNAPSHOT from the control half appends the four line views with the present stamp, side control, TEST clear, and gives
DONE whether or not the store accepts it (R188, R189).
STORE CLEAR from the control half leaves one record, the MARK with note FFFFh and the Next Number, and no loss; each
enabled channel has its cursor on it with unread count 1 and offset 0, torn with its cause where it was partway through a
record; the result is DONE and the policy stands (R80, R99). The ring position where the next record begins, 6 words on from
where it stood, is the model's own choice (log 14), and no rule's. -/
def Obligations.SnapshotAndStoreClear : Prop :=
  (∀ s : State, s.inReset = false →
     exec (.snapshot .control) s = .next
       ((report s.now false (.snapshot s.effectiveMask s.offnormalMask s.armedMask s.chatterMask) s).setSlot .control
         (s.slots.control.answered 0x11 0x1101)) ∧
     OnlyReports s (report s.now false (.snapshot s.effectiveMask s.offnormalMask s.armedMask s.chatterMask) s) ∧
     (Body.snapshot s.effectiveMask s.offnormalMask s.armedMask s.chatterMask).len = 13) ∧
  (∀ s : State, s.inReset = false → ∃ u : State, exec (.storeClear .control) s = .next
       (u.setSlot .control (s.slots.control.answered 0x12 0x1201)) ∧
     u.store = { s.store with
       records := [⟨s.store.next, s.now, false, .mark 0xFFFF .control⟩]
       tail := s.store.tail + 6
       next := s.store.next + 1
       loss := none } ∧
     (∀ h, (s.channels.get h).enabled = true →
       (u.channels.get h).unread = 1 ∧ (u.channels.get h).offset = 0 ∧
       (u.channels.get h).torn = ((s.channels.get h).torn || decide (0 < (s.channels.get h).offset)) ∧
       u.channelCauseSet h .torn = (s.channelCauseSet h .torn || decide (0 < (s.channels.get h).offset)) ∧
       (u.channels.get h).missed = (s.channels.get h).missed) ∧
     (∀ h, (s.channels.get h).enabled = false → (u.channels.get h).unread = 0 ∧ (u.channels.get h).offset = 0) ∧
     u = { s with store := u.store, channels := u.channels, irq := { s.irq with channel := u.irq.channel } })

/-- MARK from either half with a note other than FFFFh appends the note with the side and TEST clear, and gives DONE; note FFFFh
is a BAD OPERAND and appends nothing; nothing else changes (R190). -/
def Obligations.MarkRecordsItsNote : Prop :=
  ∀ (h : Half) (s : State), s.inReset = false →
    ((s.slots.get h).arg0 ≠ 0xFFFF →
      exec (.mark h) s = .next ((report s.now false (.mark (s.slots.get h).arg0 h) s).setSlot h
        ((s.slots.get h).answered 0x23 0x2301)) ∧
      OnlyReports s (report s.now false (.mark (s.slots.get h).arg0 h) s) ∧
      (Body.mark (s.slots.get h).arg0 h).len = 6) ∧
    ((s.slots.get h).arg0 = 0xFFFF → exec (.mark h) s = .next (s.setSlot h ((s.slots.get h).answered 0x23 0x2304)))

/-! ## Reader channels (Chapter 5) -/

/-- A read of CHANNEL DATA on an enabled channel with its cursor on a record returns the word at the offset; before the record's
last word the offset advances by 1 and nothing else changes; the last word consumes the record: the count falls by 1, the
offset returns to 0, a count of 0 stops the holdoff timer, and the store reclaims (R90, R91). -/
def Obligations.ChannelDataReadDelivers : Prop :=
  ∀ (h : Half) (r : Record) (s : State), s.inReset = false → (s.channels.get h).enabled = true → s.cursorRecord h = some r →
    ((s.channels.get h).offset + 1 < r.len →
      exec (.channelDataRead h) s = .next {
        s.setChannel h { s.channels.get h with offset := (s.channels.get h).offset + 1 } with
        lastRead := r.words.getD (s.channels.get h).offset 0 }) ∧
    ((s.channels.get h).offset + 1 = r.len →
      exec (.channelDataRead h) s = .next {
        reclaim (s.setChannel h { s.channels.get h with
          unread := (s.channels.get h).unread - 1
          offset := 0
          holdoffTimer := if (s.channels.get h).unread = 1 then none else (s.channels.get h).holdoffTimer }) with
        lastRead := r.words.getD (s.channels.get h).offset 0 })

/-- A read of CHANNEL DATA with no record to deliver returns 0000h and sets EMPTY-READ, and changes nothing else; one that
finds a record leaves EMPTY-READ alone, whatever word it returns; no record's first header word is 0000h; a write to a data port
is ignored (R92). -/
def Obligations.EmptyReadSetsItsFlag : Prop :=
  ∀ (h : Half) (s : State), s.inReset = false →
    ((s.channels.get h).enabled = false ∨ s.cursorRecord h = none →
      exec (.channelDataRead h) s = .next {
        s.setChannel h { s.channels.get h with emptyRead := true } with lastRead := 0 }) ∧
    (∀ r, (s.channels.get h).enabled = true → s.cursorRecord h = some r → ∃ t, exec (.channelDataRead h) s = .next t ∧
      t.lastRead = r.words.getD (s.channels.get h).offset 0 ∧
      (t.channels.get h).emptyRead = (s.channels.get h).emptyRead) ∧
    (∀ r : Record, r.head ≠ 0) ∧
    (∀ v : Word, exec (.registerWrite 21 v) s = .next s ∧ exec (.registerWrite 53 v) s = .next s)

/-- A read of CHANNEL STATUS returns the enabled flag, the end flag, the timer's running, TORN, EMPTY-READ and the offset as
they stand, then clears TORN and EMPTY-READ and nothing else (R104, Table 39). -/
def Obligations.ChannelStatusReadClearsTwoFlags : Prop :=
  ∀ (h : Half) (s : State), s.inReset = false → (s.channels.get h).offset < 16 → ∃ w : Word,
    exec (.channelStatusRead h) s = .next {
      s.setChannel h { s.channels.get h with torn := false, emptyRead := false } with lastRead := w } ∧
    w.getLsbD 0 = (s.channels.get h).enabled ∧ w.getLsbD 1 = decide ((s.channels.get h).unread = 0) ∧
    w.getLsbD 2 = (s.channels.get h).holdoffTimer.isSome ∧ w.getLsbD 3 = (s.channels.get h).torn ∧
    w.getLsbD 4 = (s.channels.get h).emptyRead ∧ w.toNat / 256 = (s.channels.get h).offset ∧ w.toNat / 32 % 8 = 0

/-- The enable commands on a disabled channel, with result DONE. FROM OLDEST puts the cursor on the oldest record held, starts a
nonzero holdoff where one is held, and sets READY where the count is at or above the threshold (R94). FROM NEXT puts it at
end, and the store reclaims (R95).
CHANNEL DISABLE of an enabled channel and CHANNEL SKIP of the record at its cursor, with result DONE: the disabled channel has
its cursor at end, offset 0 and no timer; the skip consumes the record whatever the offset; the store reclaims (R96, R97). -/
def Obligations.ChannelCommandsAct : Prop :=
  (∀ (h : Half) (s : State), s.inReset = false → (s.channels.get h).enabled = false →
     (∃ u : State, exec (.channelEnableFromOldest h) s = .next (u.setSlot h ((s.slots.get h).answered 0x30 0x3001)) ∧
       u = { s with channels := u.channels, irq := { s.irq with channel := u.irq.channel } } ∧
       u.channels = s.channels.set h { s.channels.get h with
         enabled := true
         unread := s.store.records.length
         offset := 0
         missed := 0
         holdoffTimer :=
           if 0 < s.store.records.length ∧ (s.channels.get h).holdoff ≠ 0 then
             some (s.time.elapsed + 1000 * (s.channels.get h).holdoff.toNat)
           else (s.channels.get h).holdoffTimer } ∧
       ∀ k c, u.channelCauseSet k c = (s.channelCauseSet k c || (decide (k = h ∧ c = .ready) &&
         decide (0 < (s.channels.get h).threshold.toNat ∧ (s.channels.get h).threshold.toNat ≤ s.store.records.length)))) ∧
     exec (.channelEnableFromNext h) s = .next
       ((reclaim (s.setChannel h { s.channels.get h with
           enabled := true, unread := 0, offset := 0, missed := 0, holdoffTimer := none })).setSlot h
         ((s.slots.get h).answered 0x31 0x3101))) ∧
  (∀ (h : Half) (s : State), s.inReset = false → (s.channels.get h).enabled = true →
     exec (.channelDisable h) s = .next
       ((reclaim (s.setChannel h { s.channels.get h with
           enabled := false, unread := 0, offset := 0, holdoffTimer := none })).setSlot h
         ((s.slots.get h).answered 0x32 0x3201)) ∧
     ((s.channels.get h).unread ≠ 0 →
       exec (.channelSkip h) s = .next
         ((reclaim (s.setChannel h { s.channels.get h with
             unread := (s.channels.get h).unread - 1
             offset := 0
             holdoffTimer := if (s.channels.get h).unread = 1 then none else (s.channels.get h).holdoffTimer })).setSlot h
           ((s.slots.get h).answered 0x33 0x3301))))

/-- CHANNEL REREAD: on an enabled channel with its cursor on a record at an offset above 0 it sets the offset to 0 with result
DONE, consuming nothing; at offset 0 or at end it gives NO EFFECT; on a disabled channel WRONG STATE (R98). -/
def Obligations.ChannelRereadReturnsToTheHeader : Prop :=
  ∀ (h : Half) (s : State), s.inReset = false →
    ((s.channels.get h).enabled = true → (s.channels.get h).unread ≠ 0 → 0 < (s.channels.get h).offset →
      exec (.channelReread h) s = .next
        ((s.setChannel h { s.channels.get h with offset := 0 }).setSlot h
          ((s.slots.get h).answered 0x34 0x3401))) ∧
    ((s.channels.get h).enabled = true → (s.channels.get h).unread = 0 ∨ (s.channels.get h).offset = 0 →
      exec (.channelReread h) s = .next (s.setSlot h ((s.slots.get h).answered 0x34 0x3402))) ∧
    ((s.channels.get h).enabled = false →
      exec (.channelReread h) s = .next (s.setSlot h ((s.slots.get h).answered 0x34 0x3405)))

/-- The channel commands that Table 24 turns away with WRONG STATE or NO EFFECT change nothing but the slot, and cause no
reclaim (R94 to R97).
The line commands that a line's state turns away change nothing but the slot: ARM LINE of an armed line, DISARM LINE, INJECT
and END INJECT of a DISARMED one with WRONG STATE, and with NO EFFECT an INJECT of the level already injected and an END INJECT
with the test flag clear (R5, R16 to R18). -/
def Obligations.CommandsTurnedAwayByState : Prop :=
  (∀ (h : Half) (s : State), s.inReset = false →
     ((s.channels.get h).enabled = true →
       exec (.channelEnableFromOldest h) s = .next (s.setSlot h ((s.slots.get h).answered 0x30 0x3005)) ∧
       exec (.channelEnableFromNext h) s = .next (s.setSlot h ((s.slots.get h).answered 0x31 0x3105))) ∧
     ((s.channels.get h).enabled = false →
       exec (.channelDisable h) s = .next (s.setSlot h ((s.slots.get h).answered 0x32 0x3202)) ∧
       exec (.channelSkip h) s = .next (s.setSlot h ((s.slots.get h).answered 0x33 0x3305))) ∧
     ((s.channels.get h).enabled = true → (s.channels.get h).unread = 0 →
       exec (.channelSkip h) s = .next (s.setSlot h ((s.slots.get h).answered 0x33 0x3302)))) ∧
  (∀ (l : LineId) (v : Level) (s : State), s.inReset = false → s.slots.control.arg0.toNat = l.val →
     ((s.lines.get l).cond ≠ .disarmed →
       exec (.armLine .control) s = .next (s.setSlot .control (s.slots.control.answered 0x01 0x0105)) ∧
       (s.slots.control.arg1.toNat = v.code → (s.lines.get l).injected = some v →
         exec (.inject .control) s = .next (s.setSlot .control (s.slots.control.answered 0x03 0x0302))) ∧
       ((s.lines.get l).injected = none →
         exec (.endInject .control) s = .next (s.setSlot .control (s.slots.control.answered 0x04 0x0402)))) ∧
     ((s.lines.get l).cond = .disarmed →
       exec (.disarmLine .control) s = .next (s.setSlot .control (s.slots.control.answered 0x02 0x0205)) ∧
       (s.slots.control.arg1.toNat = v.code →
         exec (.inject .control) s = .next (s.setSlot .control (s.slots.control.answered 0x03 0x0305))) ∧
       exec (.endInject .control) s = .next (s.setSlot .control (s.slots.control.answered 0x04 0x0405))))

/-- Writes of the READY words and the holdoff's expiry. A threshold of 1 to 255 is taken, and sets READY where it comes from above
the unread count to at or below it; any other is ignored; a holdoff of 0 stops the timer, any other leaves it (R100). The
expiry sets READY and stops the timer (R102). -/
def Obligations.ReadyCoalescing : Prop :=
  ∀ (h : Half) (v : Word) (s : State), s.inReset = false →
    (v = 0 ∨ 255 < v.toNat → exec (.readyThresholdWrite h v) s = .next s) ∧
    (v ≠ 0 → v.toNat ≤ 255 →
      exec (.readyThresholdWrite h v) s = .next
        (if v.toNat ≤ (s.channels.get h).unread ∧ (s.channels.get h).unread < (s.channels.get h).threshold.toNat then
          raiseChannel h .ready (s.setChannel h { s.channels.get h with threshold := v })
        else s.setChannel h { s.channels.get h with threshold := v })) ∧
    exec (.readyHoldoffWrite h v) s = .next (s.setChannel h { s.channels.get h with
      holdoff := v, holdoffTimer := if v = 0 then none else (s.channels.get h).holdoffTimer }) ∧
    (s.clockRunning = true → (s.channels.get h).holdoffTimer.isSome = true →
      exec (.holdoffTimerExpiry h) s = .next
        (raiseChannel h .ready (s.setChannel h { s.channels.get h with holdoffTimer := none })))

/-- Every step keeps both channels legal: a disabled one at end, nothing running at end, the READY words in range, the cursor on a
record held, and the offset below that record's length (Table 23, R86, R100, R102). The unread count of such a channel is at most
681 wherever the store keeps its reserve (Table 23, R68). -/
def Obligations.ChannelsLegalAfterEveryStep : Prop :=
  (∀ s t : State, (∀ h, s.channelLegal h) → step s = .next t → ∀ h, t.channelLegal h) ∧
  ∀ (s : State) (h : Half), s.channelLegal h → s.store.keepsReserve → (s.channels.get h).unread ≤ 681

/-! ## Interrupt requests (Chapter 9) -/

/-- IRQA is asserted exactly while a channel A cause has flag and enable set or a system cause with its flag set has route A or
BOTH; IRQB likewise for channel B and route B or BOTH (R177). -/
def Obligations.RequestOutputsFollowFlags : Prop :=
  ∀ s : State,
    (s.irqAsserted .control = true ↔
      (∃ i : Fin 4, s.irq.channel.control.flags.get i = true ∧ s.irq.channel.control.enables.get i = true) ∨
      ∃ i : Fin 6, s.irq.system.get i = true ∧ (s.irq.routes.get i = .a ∨ s.irq.routes.get i = .both)) ∧
    (s.irqAsserted .archive = true ↔
      (∃ i : Fin 4, s.irq.channel.archive.flags.get i = true ∧ s.irq.channel.archive.enables.get i = true) ∨
      ∃ i : Fin 6, s.irq.system.get i = true ∧ (s.irq.routes.get i = .b ∨ s.irq.routes.get i = .both))

/-- A write of CHANNEL CAUSES takes bits 8 to 11 as the enables and clears the flags at 1 in bits 0 to 3 (R172, R173); a clear of
a set READY tells the channel, which restarts a nonzero holdoff or, with holdoff 0 and the count at the threshold, sets READY
again (R103, R174). Nothing else changes.
A write of SYSTEM CAUSES clears the flags at 1: any flag from the control half, from the archive half one routed to B or BOTH
(R173). A write of SYSTEM ROUTES gives each cause its two bits' route and changes no flag (R175, Table 39). -/
def Obligations.CauseWritesClearAndEnable : Prop :=
  (∀ (h : Half) (v : Word) (s : State), s.inReset = false → ∃ t, exec (.channelCausesWrite h v) s = .next t ∧
     t = { s with channels := t.channels, irq := { s.irq with channel := t.irq.channel } } ∧
     (∀ i : Fin 4, (t.irq.channel.get h).enables.get i = v.getLsbD (8 + i.val)) ∧
     (∀ i : Fin 4, i ≠ 0 → (t.irq.channel.get h).flags.get i = ((s.irq.channel.get h).flags.get i && !v.getLsbD i.val)) ∧
     (∀ k, k ≠ h → t.irq.channel.get k = s.irq.channel.get k ∧ t.channels.get k = s.channels.get k) ∧
     (v.getLsbD 0 = false ∨ s.channelCauseSet h .ready = false →
       t.channelCauseSet h .ready = s.channelCauseSet h .ready ∧ t.channels = s.channels) ∧
     (v.getLsbD 0 = true → s.channelCauseSet h .ready = true →
       ((s.channels.get h).unread = 0 → t.channelCauseSet h .ready = false ∧ t.channels = s.channels) ∧
       ((s.channels.get h).unread ≠ 0 → (s.channels.get h).holdoff ≠ 0 →
         t.channelCauseSet h .ready = false ∧
         t.channels.get h = { s.channels.get h with
           holdoffTimer := some (s.time.elapsed + 1000 * (s.channels.get h).holdoff.toNat) }) ∧
       ((s.channels.get h).unread ≠ 0 → (s.channels.get h).holdoff = 0 →
         t.channelCauseSet h .ready = decide ((s.channels.get h).threshold.toNat ≤ (s.channels.get h).unread) ∧
         t.channels = s.channels))) ∧
  (∀ (v : Word) (s : State), s.inReset = false →
     (∃ t, exec (.systemCausesWrite .control v) s = .next t ∧ t = { s with irq := { s.irq with system := t.irq.system } } ∧
       ∀ i : Fin 6, t.irq.system.get i = (s.irq.system.get i && !v.getLsbD i.val)) ∧
     (∃ t, exec (.systemCausesWrite .archive v) s = .next t ∧ t = { s with irq := { s.irq with system := t.irq.system } } ∧
       ∀ i : Fin 6, t.irq.system.get i = (s.irq.system.get i &&
         !(v.getLsbD i.val && decide (s.irq.routes.get i = .b ∨ s.irq.routes.get i = .both)))) ∧
     (∃ t, exec (.systemRoutesWrite v) s = .next t ∧ t = { s with irq := { s.irq with routes := t.irq.routes } } ∧
       ∀ i : Fin 6, (t.irq.routes.get i).code = v.toNat / 4 ^ i.val % 4))

/-! ## The Time Base (Chapter 2) -/

/-- A read of a half's TIME HIGH returns the counter's upper 16 bits and latches the middle, the low and the quality in that half's
latch alone; reads of the half's middle and low words and quality field return what is latched, whatever the counter does;
writes to the time read words are ignored (R36). -/
def Obligations.TimeHighReadLatches : Prop :=
  (∀ (h : Half) (s : State), s.inReset = false →
    exec (.timeHighRead h) s = .next { s with
      lastRead := s.time.counter.extractLsb' 32 16
      time := { s.time with latches := s.time.latches.set h (TimeLatch.mk (s.time.counter.extractLsb' 16 16)
        (s.time.counter.extractLsb' 0 16) s.time.quality) } }) ∧
  (∀ s : State, s.inReset = false →
    s.busRead 12 = s.time.latches.control.middle ∧ s.busRead 13 = s.time.latches.control.low ∧
    (s.busRead 14).toNat / 16 % 4 = s.time.latches.control.quality.code ∧
    s.busRead 44 = s.time.latches.archive.middle ∧ s.busRead 45 = s.time.latches.archive.low ∧
    (s.busRead 46).toNat / 16 % 4 = s.time.latches.archive.quality.code) ∧
  (∀ (w : WordId) (v : Word) (s : State), w ∈ ([11, 12, 13, 43, 44, 45] : List WordId) →
    exec (.registerWrite w v) s = .next s)

/-- SET TIME from the control half loads TIME SET HIGH, ARG0 and ARG1, discards the hold, appends a SET record with the step
modulo 2^48, takes LOCKED or HOLDOVER to ACQUIRING with sync enable On and leaves any other quality, and then sends the
discontinuity notice; the result is DONE (R32, R33, R191). The pulse reference, the supervision timer and TIME SET HIGH
stand.
The notice resolves every RESOLVING group with the candidates held, the earliest edge and of equal edges the lowest line its
first-out, its discontinuity flag set and the GROUP TRIP cause with it; groups in CLEAR and TRIPPED stand (R51, R55). Every open
context of every rule lapses, counted in its rule's lapse count, and any exhaustion episode ends (R117, R124). The lines, the
Alarm List and the outputs stand (R34). -/
def Obligations.SetTimeLoadsTheCounter : Prop :=
  (∀ (s : State) (v : Timestamp) (q : Quality), s.inReset = false →
     v = s.time.setHigh ++ s.slots.control.arg0 ++ s.slots.control.arg1 →
     (s.time.syncEnable = true ∧ (s.time.quality = .locked ∨ s.time.quality = .holdover) → q = .acquiring) →
     (¬(s.time.syncEnable = true ∧ (s.time.quality = .locked ∨ s.time.quality = .holdover)) → q = s.time.quality) →
     ∃ u : State, exec (.setTime .control) s = .next (u.setSlot .control (s.slots.control.answered 0x10 0x1001)) ∧
       u.time = { s.time with counter := v, hold := 0, quality := q } ∧
       u = discontinuityNotice (changeQuality q
         (report ⟨v, s.time.quality⟩ false (.time .set s.time.quality q (v - s.time.counter))
           { s with time := { s.time with counter := v, hold := 0 } })) ∧
       u.lines = s.lines) ∧
  (∀ s t : State, t = discontinuityNotice s →
     OnlyEvents s t ∧ t.lines = s.lines ∧ t.alarms = s.alarms ∧ t.outputs = s.outputs ∧
     (∀ r, t.rules.get r = { s.rules.get r with
       contexts := []
       lapseCount := BitVec.ofNat 16 (min 65535 ((s.rules.get r).lapseCount.toNat + (s.rules.get r).contexts.length)) }) ∧
     ((∃ r, (s.rules.get r).contexts ≠ []) → t.exhausted = false) ∧
     ((∀ r, (s.rules.get r).contexts = []) → t.exhausted = s.exhausted) ∧
     (∀ g, (s.groups.get g).phase ≠ .resolving → t.groups.get g = s.groups.get g) ∧
     (∀ g x, x = s.groups.get g → x.phase = .resolving → x.candidates ≠ [] → ∃ f ∈ x.candidates,
       (∀ c ∈ x.candidates, f.stamp.time < c.stamp.time ∨ (f.stamp.time = c.stamp.time ∧ f.line ≤ c.line)) ∧
       (t.groups.get g).phase = .tripped ∧ (t.groups.get g).discontinuity = true ∧ (t.groups.get g).candidates = [] ∧
       (t.groups.get g).timer = none ∧ (t.groups.get g).candidateCount = x.candidates.length ∧
       (t.groups.get g).firstOut = some ⟨f.line, f.stamp, f.ref⟩ ∧ t.causeSet .groupTrip = true))

/-- A write of TIME CONTROL. On from Off takes FREE to ACQUIRING with no pulse reference; Off from On takes the quality to FREE,
stops the supervision timer and discards the reference; either reports the change; a write that leaves sync enable as it is
changes nothing (R26, R33). A hold goes on.
The supervision timer's expiry takes LOCKED to HOLDOVER with a QUALITY record and the TIME QUALITY cause, and otherwise only
stops (R31, R33). HOLD_ABSORBED is the end of a hold, from which the counter resumes from the value held (R29); that as a command
it makes the hold remaining 0, whatever it was, is the model's choice (log 13). -/
def Obligations.TimeControlSupervisionAndHold : Prop :=
  (∀ (v : Word) (s : State), s.inReset = false →
     (v.getLsbD 0 = s.time.syncEnable → exec (.timeControlWrite v) s = .next s) ∧
     (v.getLsbD 0 = true → s.time.syncEnable = false → s.time.quality = .free →
       exec (.timeControlWrite v) s = .next (raise .timeQuality
         (report ⟨s.time.counter, .acquiring⟩ false (.time .quality .free .acquiring 0)
           { s with time := { s.time with syncEnable := true, lastPulse := none, quality := .acquiring } }))) ∧
     (v.getLsbD 0 = false → s.time.syncEnable = true → s.time.quality ≠ .free →
       exec (.timeControlWrite v) s = .next (raise .timeQuality
         (report ⟨s.time.counter, .free⟩ false (.time .quality s.time.quality .free 0)
           { s with time := { s.time with
             syncEnable := false, lastPulse := none, supervision := none, quality := .free } })))) ∧
  (∀ s : State, s.inReset = false → s.clockRunning = true →
     (s.time.supervision.isSome = true → s.time.quality = .locked →
       exec .supervisionExpiry s = .next (raise .timeQuality
         (report ⟨s.time.counter, .holdover⟩ false (.time .quality .locked .holdover 0)
           { s with time := { s.time with supervision := none, quality := .holdover } }))) ∧
     (s.time.supervision.isSome = true → s.time.quality ≠ .locked →
       exec .supervisionExpiry s = .next { s with time := { s.time with supervision := none } }) ∧
     exec .holdAbsorbed s = .next { s with time := { s.time with hold := 0 } })

/-- A SYNC pulse. With sync enable Off it is ignored (R27). In ACQUIRING a pulse with no interval, or one outside the tolerance,
corrects nothing (R28). In LOCKED and HOLDOVER, and at a regular pulse in ACQUIRING, its offset, the distance to the nearest
whole second, is corrected within the step limit with the quality LOCKED: forward at once, backward by a hold of its magnitude
(R28, R29); beyond it the counter is stepped, to ACQUIRING, or to LOCKED at the completion of acquisition (R30). Every pulse
handled becomes the reference, discards a hold remaining and restarts the supervision timer (R27, R31). A step sends the
discontinuity notice: every RESOLVING group trips with its discontinuity flag set, the other groups stand, and no context stays
open (R34, R55, R124); within the step limit the groups and the rules stand. With room in the store, a step appends its STEP
record with the signed offset, at the counter's new value under the quality before, then the QUALITY record at that value under
the new quality, and after both what the notice ends (R30, R33): nothing, where no group resolves and no context is open
(under WRAP what the notice ends may drop older records, so there the records are stated for that case alone). Within the step limit a change of quality appends its QUALITY record alone,
and no change appends none (R29, R33). -/
def Obligations.SyncPulseAlignsTheCounter : Prop :=
  ∀ (s : State) (r : Nat), s.inReset = false → s.clockRunning = true → r = s.time.counter.toNat % 1000000 →
    (s.time.syncEnable = false → exec .syncPulse s = .next s) ∧
    (s.time.syncEnable = true → s.time.quality = .acquiring →
      (∀ ref, s.time.lastPulse = some ref → 1000000 + s.time.tolerance.toNat < s.time.elapsed - ref ∨
        s.time.elapsed - ref + s.time.tolerance.toNat < 1000000) →
      exec .syncPulse s = .next { s with time := { s.time with
        hold := 0
        lastPulse := some s.time.elapsed
        supervision := some (s.time.elapsed + (1000000 + s.time.tolerance.toNat)) } }) ∧
    (s.time.syncEnable = true →
      (s.time.quality = .locked ∨ s.time.quality = .holdover ∨ (s.time.quality = .acquiring ∧
        ∃ ref, s.time.lastPulse = some ref ∧ s.time.elapsed - ref ≤ 1000000 + s.time.tolerance.toNat ∧
          1000000 ≤ s.time.elapsed - ref + s.time.tolerance.toNat)) →
      ∃ t, exec .syncPulse s = .next t ∧ t.lines = s.lines ∧
        ((if r < 500000 then r else 1000000 - r) ≤ s.time.stepLimit.toNat →
          t.time = { s.time with
            counter := if r < 500000 then s.time.counter else satAdvance s.time.counter (1000000 - r)
            hold := if r < 500000 then BitVec.ofNat 16 r else 0
            quality := .locked
            lastPulse := some s.time.elapsed
            supervision := some (s.time.elapsed + (1000000 + s.time.tolerance.toNat)) } ∧
          t.groups = s.groups ∧ t.rules = s.rules ∧
          (s.time.quality = .locked → t = { s with time := t.time }) ∧
          (s.time.quality ≠ .locked → t.causeSet .timeQuality = true ∧
            (s.store.loss = none → 14 ≤ s.store.free → t.store.records = s.store.records ++
              [⟨s.store.next, ⟨t.time.counter, .locked⟩, false, .time .quality s.time.quality .locked 0⟩]))) ∧
        (s.time.stepLimit.toNat < (if r < 500000 then r else 1000000 - r) →
          t.time = { s.time with
            counter :=
              if r < 500000 then BitVec.ofNat 48 (s.time.counter.toNat - r) else satAdvance s.time.counter (1000000 - r)
            hold := 0
            quality := if s.time.quality = .acquiring then .locked else .acquiring
            lastPulse := some s.time.elapsed
            supervision := some (s.time.elapsed + (1000000 + s.time.tolerance.toNat)) } ∧
          t.causeSet .timeQuality = true ∧
          (∀ g, (s.groups.get g).phase = .resolving → (s.groups.get g).candidates ≠ [] →
            (t.groups.get g).phase = .tripped ∧ (t.groups.get g).discontinuity = true) ∧
          (∀ g, (s.groups.get g).phase ≠ .resolving → t.groups.get g = s.groups.get g) ∧
          (∀ k, (t.rules.get k).contexts = []) ∧
          (s.store.loss = none → 23 ≤ s.store.free → ∀ quiet : Bool,
            (quiet = true ↔ (∀ g, (s.groups.get g).phase ≠ .resolving) ∧ ∀ k, (s.rules.get k).contexts = []) →
            s.store.policy = .hold ∨ quiet = true →
            ∃ more, (quiet = true → more = []) ∧ t.store.records = s.store.records ++
              [⟨s.store.next, ⟨t.time.counter, s.time.quality⟩, false, .time .step s.time.quality t.time.quality
                 (BitVec.ofInt 48 (if r < 500000 then -(r : Int) else 1000000 - (r : Int)))⟩,
               ⟨s.store.next + 1, ⟨t.time.counter, t.time.quality⟩, false,
                 .time .quality s.time.quality t.time.quality 0⟩] ++ more)))

/-- Every step keeps sync enable and quality in agreement, the tolerance and step limit above 0, and the supervision timer
stopped with sync enable Off and in HOLDOVER (Table 11, R26, R31). -/
def Obligations.TimeBaseLegalAfterEveryStep : Prop :=
  ∀ s t : State, s.time.legal → step s = .next t → t.time.legal

/-! ## Field lines (Chapter 1) -/

/-- A field input sampled at a level. The physical level is noted, and where the line is under injection or the level is the one
last observed nothing else happens (R1). Otherwise the change is taken by the line's state: DISARMED discards it, SETTLING
restarts the check time, NORMAL and OFFNORMAL with a nonzero check time capture the edge and start qualifying, DEPARTING
and RETURNING discard the captured edge as a bounce, CHATTER counts it and restarts the release timer (R6, R7, R8, R10, R14);
then no other line and nothing else of the part changes. With check time 0 the change itself qualifies in NORMAL and OFFNORMAL
(R10), as a qualification expiry does. -/
def Obligations.FieldChangeDrivesTheLine : Prop :=
  ∀ (l : LineId) (v : Level) (s : State) (x y : LineState) (check release : Nat),
    s.inReset = false → s.clockRunning = true → x = s.lines.get l →
    check = s.time.elapsed + 100 * (s.profiles.get (s.lineTable.get l).profile).checkTime.toNat →
    release = s.time.elapsed + 1000 * (s.profiles.get (s.lineTable.get l).profile).releaseTime.toNat →
    y = { x with physical := v, effective := v } →
    (x.injected = some x.effective →
      exec (.fieldLineChange l v) s = .next (s.setLine l { x with physical := v })) ∧
    (x.injected = none → x.effective = v → exec (.fieldLineChange l v) s = .next (s.setLine l { x with physical := v })) ∧
    (x.injected = none → x.effective ≠ v →
      (x.cond = .disarmed → exec (.fieldLineChange l v) s = .next (s.setLine l y)) ∧
      (x.cond = .settling → exec (.fieldLineChange l v) s = .next (s.setLine l { y with qualTimer := some check })) ∧
      (x.cond = .normal → check ≠ s.time.elapsed →
        exec (.fieldLineChange l v) s = .next
          (s.setLine l { y with cond := .departing, edge := some s.now, qualTimer := some check })) ∧
      (x.cond = .normal → check = s.time.elapsed → ∃ t, exec (.fieldLineChange l v) s = .next t ∧
        OnlyEvents s t ∧ (∀ k, k ≠ l → t.lines.get k = s.lines.get k) ∧
        ((s.profiles.get (s.lineTable.get l).profile).chatterLimit = 0 → t.lines.get l = { y with
          cond := .offnormal, qualified := some (s.lineTable.get l).normal.flip, edge := none, qualTimer := none })) ∧
      (x.cond = .departing →
        exec (.fieldLineChange l v) s = .next (s.setLine l { y with cond := .normal, edge := none, qualTimer := none })) ∧
      (x.cond = .offnormal → check ≠ s.time.elapsed →
        exec (.fieldLineChange l v) s = .next
          (s.setLine l { y with cond := .returning, edge := some s.now, qualTimer := some check })) ∧
      (x.cond = .offnormal → check = s.time.elapsed → ∃ t, exec (.fieldLineChange l v) s = .next t ∧
        OnlyEvents s t ∧ (∀ k, k ≠ l → t.lines.get k = s.lines.get k) ∧
        ((s.profiles.get (s.lineTable.get l).profile).chatterLimit = 0 → t.lines.get l = { y with
          cond := .normal, qualified := some (s.lineTable.get l).normal, edge := none, qualTimer := none })) ∧
      (x.cond = .returning →
        exec (.fieldLineChange l v) s = .next
          (s.setLine l { y with cond := .offnormal, edge := none, qualTimer := none })) ∧
      (x.cond = .chatter →
        exec (.fieldLineChange l v) s = .next
          (s.setLine l { y with
            suppressed := satInc x.suppressed, lastChange := some s.now, releaseTimer := some release })))

/-- ARM LINE of a DISARMED line gives DONE: with a nonzero check time it is SETTLING with its check time running, no window and no
test flag, and nothing else has changed (R5); with check time 0 it has left SETTLING at its effective level (R6). DISARM LINE
of an armed line gives DONE and discards all the line held but its physical level (R16). The other lines stand. -/
def Obligations.ArmAndDisarmLine : Prop :=
  ∀ (l : LineId) (s : State) (x : LineState) (check : Word), s.inReset = false → s.slots.control.arg0.toNat = l.val →
    x = s.lines.get l → check = (s.profiles.get (s.lineTable.get l).profile).checkTime →
    (x.cond = .disarmed → check ≠ 0 →
      exec (.armLine .control) s = .next
        ((s.setLine l { x with
          cond := .settling, qualTimer := some (s.time.elapsed + 100 * check.toNat), window := none
          injected := none }).setSlot .control (s.slots.control.answered 0x01 0x0101))) ∧
    (x.cond = .disarmed → check = 0 →
      ∃ u : State, exec (.armLine .control) s = .next (u.setSlot .control (s.slots.control.answered 0x01 0x0101)) ∧
        OnlyEvents s u ∧ (∀ k, k ≠ l → u.lines.get k = s.lines.get k) ∧
        u.lines.get l = { x with
          cond := if x.effective = (s.lineTable.get l).normal then .normal else .offnormal
          qualified := some x.effective, qualTimer := none, window := none, injected := none }) ∧
    (x.cond ≠ .disarmed →
      ∃ u : State, exec (.disarmLine .control) s = .next (u.setSlot .control (s.slots.control.answered 0x02 0x0201)) ∧
        OnlyEvents s u ∧ (∀ k, k ≠ l → u.lines.get k = s.lines.get k) ∧
        u.lines.get l = LineState.reset x.physical ∧
        (s.store.loss = none → 11 ≤ s.store.free →
          u.store.records = s.store.records ++ [⟨s.store.next, s.now, x.injected.isSome, .disarmed l⟩]))

/-- INJECT at an armed line sets the test flag with the injected level, which becomes the effective level, with DONE; END INJECT at
a line under injection clears both, and the effective level becomes the physical one, with DONE (R17, R18). Where the effective
level changes, the line's conditioning state takes the change exactly as it takes a physical change to that level; where it
does not, nothing else changes. -/
def Obligations.InjectAndEndInject : Prop :=
  (∀ (l : LineId) (v : Level) (s : State) (x : LineState), s.inReset = false → s.slots.control.arg0.toNat = l.val →
     x = s.lines.get l → x.cond ≠ .disarmed →
     (s.slots.control.arg1.toNat = v.code → x.injected ≠ some v →
       ∃ u : State, exec (.inject .control) s = .next (u.setSlot .control (s.slots.control.answered 0x03 0x0301)) ∧
         OnlyEvents s u ∧ (∀ k, k ≠ l → u.lines.get k = s.lines.get k) ∧
         (u.lines.get l).injected = some v ∧ (u.lines.get l).effective = v ∧ (u.lines.get l).physical = x.physical ∧
         (x.effective = v → u = s.setLine l { x with injected := some v }) ∧
         (x.effective ≠ v → u = takeChange l (s.setLine l { x with injected := some v, effective := v }))) ∧
     (x.injected.isSome = true →
       ∃ u : State, exec (.endInject .control) s = .next (u.setSlot .control (s.slots.control.answered 0x04 0x0401)) ∧
         OnlyEvents s u ∧ (∀ k, k ≠ l → u.lines.get k = s.lines.get k) ∧
         (u.lines.get l).injected = none ∧ (u.lines.get l).effective = x.physical ∧
         (u.lines.get l).physical = x.physical ∧
         (x.effective = x.physical → u = s.setLine l { x with injected := none }) ∧
         (x.effective ≠ x.physical → u = takeChange l (s.setLine l { x with injected := none, effective := x.physical })))) ∧
  (∀ (l : LineId) (v : Level) (s : State) (x : LineState), s.inReset = false → s.clockRunning = true → x = s.lines.get l →
     x.injected = none → x.effective ≠ v →
     exec (.fieldLineChange l v) s = .next (takeChange l (s.setLine l { x with physical := v, effective := v }))) ∧
  (∀ (l : LineId) (s : State) (x : LineState) (check release : Nat), x = s.lines.get l →
     check = s.time.elapsed + 100 * (s.profiles.get (s.lineTable.get l).profile).checkTime.toNat →
     release = s.time.elapsed + 1000 * (s.profiles.get (s.lineTable.get l).profile).releaseTime.toNat →
     (x.cond = .disarmed → takeChange l s = s) ∧
     (x.cond = .settling → takeChange l s = s.setLine l { x with qualTimer := some check }) ∧
     (x.cond = .normal → check ≠ s.time.elapsed →
       takeChange l s = s.setLine l { x with cond := .departing, edge := some s.now, qualTimer := some check }) ∧
     (x.cond = .normal → check = s.time.elapsed → takeChange l s = qualifyDeparture l
       (s.setLine l { x with cond := .departing, edge := some s.now, qualTimer := some check })) ∧
     (x.cond = .departing → takeChange l s = s.setLine l { x with cond := .normal, edge := none, qualTimer := none }) ∧
     (x.cond = .offnormal → check ≠ s.time.elapsed →
       takeChange l s = s.setLine l { x with cond := .returning, edge := some s.now, qualTimer := some check }) ∧
     (x.cond = .offnormal → check = s.time.elapsed → takeChange l s = qualifyReturn l
       (s.setLine l { x with cond := .returning, edge := some s.now, qualTimer := some check })) ∧
     (x.cond = .returning → takeChange l s = s.setLine l { x with cond := .offnormal, edge := none, qualTimer := none }) ∧
     (x.cond = .chatter → takeChange l s = s.setLine l { x with
       suppressed := satInc x.suppressed, lastChange := some s.now, releaseTimer := some release }))

/-- A qualification timer's expiry. In SETTLING the line takes its effective level as qualified and an ARMED record with the present
stamp is appended; an offnormal one is then a departure at the Alarm List unless the ack mode is NONE (R6, R43). In DEPARTING,
and in RETURNING, the line qualifies, and where its entry records the change the LINE record carries the captured edge (R9,
R10, R41, R45). Where its chatter limit is 0 it stands in OFFNORMAL, or in NORMAL, holding no edge and no timer; below the limit
the transition opens a window with count 1 or raises an open window's count by 1 (R12). The other lines and every configuration
stand.
A DEPART's handling: the LINE record where called for, then the line's group, the engine, the Alarm List unless the ack mode is
NONE, and the departure action's pulse, each with the record's number or none (R38, R41, R46, R47). A RETURN's is the same
without the group (R42). -/
def Obligations.QualificationExpiryQualifies : Prop :=
  (∀ (l : LineId) (s : State) (x : LineState) (e : LineEntry) (limit : Nat) (closes : Nat), s.inReset = false →
     s.clockRunning = true → x = s.lines.get l → e = s.lineTable.get l → x.qualTimer.isSome = true →
     limit = (s.profiles.get e.profile).chatterLimit.val →
     closes = s.time.elapsed + 1000 * (s.profiles.get e.profile).chatterWindow.toNat →
     (x.cond = .settling → ∃ t, exec (.qualificationExpiry l) s = .next t ∧
       OnlyEvents s t ∧ (∀ k, k ≠ l → t.lines.get k = s.lines.get k) ∧
       t.lines.get l = { x with
         cond := if x.effective = e.normal then .normal else .offnormal
         qualified := some x.effective, qualTimer := none } ∧
       (s.store.loss = none → 11 ≤ s.store.free →
         t.store.records = s.store.records ++ [⟨s.store.next, s.now, x.injected.isSome, .armed l x.effective⟩]) ∧
       (∀ a, a = append s.now x.injected.isSome (.armed l x.effective) (s.setLine l (t.lines.get l)) →
         (e.ackMode = .off ∨ x.effective = e.normal → t = a.2) ∧
         (e.ackMode ≠ .off → x.effective ≠ e.normal →
           t = alarmDeparture ⟨l, e.priority, s.now, x.injected.isSome, some a.1⟩ a.2))) ∧
     (∀ edge y, x.cond = .departing → x.edge = some edge →
       y = { x with cond := .offnormal, qualified := some e.normal.flip, edge := none, qualTimer := none } →
       (∃ t, exec (.qualificationExpiry l) s = .next t ∧
         OnlyEvents s t ∧ (∀ k, k ≠ l → t.lines.get k = s.lines.get k) ∧ (limit = 0 → t.lines.get l = y) ∧
         (e.recordDepartures = true → s.store.policy = .hold → s.store.loss = none → 13 ≤ s.store.free →
           ∃ more, t.store.records = s.store.records ++
             ⟨s.store.next, edge, x.injected.isSome, .line l .depart e.cls e.priority e.group
               (if e.snapshot then some (s.setLine l y).offnormalMask else none)⟩ :: more)) ∧
       (∀ d, d = classifyDepart l edge x.injected.isSome (s.setLine l y) →
         (limit = 0 → exec (.qualificationExpiry l) s = .next d) ∧
         (x.window = none → 1 < limit →
           exec (.qualificationExpiry l) s = .next (d.setLine l { y with window := some ⟨1, closes⟩ })) ∧
         (∀ w, x.window = some w → w.count + 1 < limit →
           exec (.qualificationExpiry l) s =
             .next (d.setLine l { y with window := some { w with count := w.count + 1 } })))) ∧
     (∀ edge y, x.cond = .returning → x.edge = some edge →
       y = { x with cond := .normal, qualified := some e.normal, edge := none, qualTimer := none } →
       (∃ t, exec (.qualificationExpiry l) s = .next t ∧
         OnlyEvents s t ∧ (∀ k, k ≠ l → t.lines.get k = s.lines.get k) ∧ (limit = 0 → t.lines.get l = y) ∧
         (e.recordReturns = true → s.store.policy = .hold → s.store.loss = none → 13 ≤ s.store.free →
           ∃ more, t.store.records = s.store.records ++
             ⟨s.store.next, edge, x.injected.isSome, .line l .giveBack e.cls e.priority e.group
               (if e.snapshot then some (s.setLine l y).offnormalMask else none)⟩ :: more)) ∧
       (∀ d, d = classifyReturn l edge x.injected.isSome (s.setLine l y) →
         (limit = 0 → exec (.qualificationExpiry l) s = .next d) ∧
         (x.window = none → 1 < limit →
           exec (.qualificationExpiry l) s = .next (d.setLine l { y with window := some ⟨1, closes⟩ })) ∧
         (∀ w, x.window = some w → w.count + 1 < limit →
           exec (.qualificationExpiry l) s =
             .next (d.setLine l { y with window := some { w with count := w.count + 1 } }))))) ∧
  (∀ (l : LineId) (dir : Direction) (stamp : Stamp) (test : Bool) (s u0 u1 u2 u3 : State) (num : Option Word) (e : LineEntry)
     (wanted : Bool) (a : Word × State), e = s.lineTable.get l →
     wanted = (if dir = .depart then e.recordDepartures else e.recordReturns) →
     a = append stamp test
       (.line l dir e.cls e.priority e.group (if e.snapshot then some s.offnormalMask else none)) s →
     (wanted = true → num = some a.1 ∧ u0 = a.2) → (wanted = false → num = none ∧ u0 = s) →
     (dir = .depart → ∀ g, e.group = some g → u1 = groupDeparture g ⟨l, stamp, test, num⟩ u0) →
     (dir = .giveBack ∨ e.group = none → u1 = u0) →
     u2 = correlate ⟨l, dir, stamp, test, num⟩ u1 →
     (e.ackMode = .off → u3 = u2) →
     (e.ackMode ≠ .off →
       u3 = if dir = .depart then alarmDeparture ⟨l, e.priority, stamp, test, num⟩ u2 else alarmReturn l u2) →
     (dir = .depart → (e.departAction = none → classifyDepart l stamp test s = u3) ∧
       ∀ q, e.departAction = some q → classifyDepart l stamp test s = requestPulse q u3) ∧
     (dir = .giveBack → (e.returnAction = none → classifyReturn l stamp test s = u3) ∧
       ∀ q, e.returnAction = some q → classifyReturn l stamp test s = requestPulse q u3))

/-- Chatter. A qualified transition that brings an open window's count to the limit puts the line into CHATTER with the CHATTER
cause set, its window closed, suppressed count 0, and the edge as last change; the DEPART or RETURN is handed first, and CHATTER
ON with the same edge after it, to its record, the cause and the Alarm List (R9, R12, R13, R44). The window's expiry closes it
and discards its count (R12). The release timer's expiry takes the line to the state of its effective level, discards what
CHATTER held, and appends CHATTER OFF with the suppressed count and the last change's stamp, which the Alarm List then takes
unless the ack mode is NONE (R15, R44). -/
def Obligations.ChatterBeginsAndEnds : Prop :=
  ∀ (l : LineId) (s : State) (x : LineState) (e : LineEntry), s.inReset = false → s.clockRunning = true →
    x = s.lines.get l → e = s.lineTable.get l →
    (∀ edge w, x.qualTimer.isSome = true → x.cond = .departing ∨ x.cond = .returning → x.edge = some edge →
      x.window = some w → (s.profiles.get e.profile).chatterLimit ≠ 0 →
      (s.profiles.get e.profile).chatterLimit.val ≤ w.count + 1 →
      ∃ t, exec (.qualificationExpiry l) s = .next t ∧ t.causeSet .chatter = true ∧
        t.lines.get l = { x with
          cond := .chatter
          qualified := some (if x.cond = .departing then e.normal.flip else e.normal)
          edge := none, qualTimer := none, window := none, suppressed := 0, lastChange := some edge
          releaseTimer := some (s.time.elapsed + 1000 * (s.profiles.get e.profile).releaseTime.toNat) } ∧
        (∀ d a y, y = { x with edge := none, qualTimer := none } →
          (x.cond = .departing → d = classifyDepart l edge x.injected.isSome
            (s.setLine l { y with cond := .offnormal, qualified := some e.normal.flip })) →
          (x.cond = .returning → d = classifyReturn l edge x.injected.isSome
            (s.setLine l { y with cond := .normal, qualified := some e.normal })) →
          a = append edge x.injected.isSome (.chatterOn l (if x.cond = .departing then e.normal.flip else e.normal))
            (d.setLine l (t.lines.get l)) →
          (e.ackMode = .off → t = raise .chatter a.2) ∧
          (e.ackMode ≠ .off → t = alarmChatterOn ⟨l, e.priority, edge, x.injected.isSome, some a.1⟩ (raise .chatter a.2)))) ∧
    exec (.chatterWindowExpiry l) s = .next (s.setLine l { x with window := none }) ∧
    (∀ last, x.cond = .chatter → x.releaseTimer.isSome = true → x.lastChange = some last →
      ∃ t, exec (.releaseExpiry l) s = .next t ∧
        OnlyEvents s t ∧ (∀ k, k ≠ l → t.lines.get k = s.lines.get k) ∧
        t.lines.get l = { x with
          cond := if x.effective = e.normal then .normal else .offnormal
          qualified := some x.effective, window := none, suppressed := 0, lastChange := none, releaseTimer := none } ∧
        (s.store.loss = none → 12 ≤ s.store.free →
          t.store.records = s.store.records ++
            [⟨s.store.next, last, x.injected.isSome, .chatterOff l x.effective x.suppressed⟩]) ∧
        (∀ a, a = append last x.injected.isSome (.chatterOff l x.effective x.suppressed) (s.setLine l (t.lines.get l)) →
          (e.ackMode = .off → t = a.2) ∧
          (e.ackMode ≠ .off → t = alarmChatterOff ⟨l, e.priority, last, x.injected.isSome, some a.1⟩
            (decide (x.effective = e.normal)) a.2)))

/-- Every step keeps what each line holds in agreement with its conditioning state, and its effective level the injected or the
physical one (Table 7, R1, R6 to R17). -/
def Obligations.LinesLegalAfterEveryStep : Prop :=
  ∀ s t : State, (∀ l, (s.lines.get l).legal (s.lineTable.get l).normal) → step s = .next t →
    ∀ l, (t.lines.get l).legal (t.lineTable.get l).normal

/-! ## First-out groups (Chapter 3) -/

/-- The resolution timer's expiry. The group is TRIPPED on the candidate of the earliest edge, of equal edges the lowest line;
the others at that edge are coincident, the rest consequents; the GROUP TRIP record has the first-out's stamp and tag, and the
cause is set (R51, R52). -/
def Obligations.ResolutionFindsTheFirstOut : Prop :=
  ∀ (g : GroupId) (s : State) (x : FirstOutGroup), s.inReset = false → s.clockRunning = true → x = s.groups.get g →
    x.phase = .resolving → x.timer.isSome = true → x.candidates ≠ [] → (x.candidates.map Candidate.line).Nodup →
    ∃ t f, exec (.resolutionTimerExpiry g) s = .next t ∧ OnlyEvents s t ∧ t.lines = s.lines ∧
      f ∈ x.candidates ∧
      (∀ c ∈ x.candidates, f.stamp.time < c.stamp.time ∨ (f.stamp.time = c.stamp.time ∧ f.line ≤ c.line)) ∧
      (∀ k, k ≠ g → t.groups.get k = s.groups.get k) ∧
      (t.groups.get g).phase = .tripped ∧ (t.groups.get g).candidates = [] ∧ (t.groups.get g).timer = none ∧
      (t.groups.get g).firstOut = some ⟨f.line, f.stamp, f.ref⟩ ∧ (t.groups.get g).discontinuity = false ∧
      (t.groups.get g).candidateCount = x.candidates.length ∧
      (∀ l : LineId, (t.groups.get g).coincident.getLsbD l.val = true ↔
        ∃ c ∈ x.candidates, c.line = l ∧ c.line ≠ f.line ∧ c.stamp.time = f.stamp.time) ∧
      (t.groups.get g).consequents.toNat =
        (x.candidates.filter fun c => decide (f.stamp.time < c.stamp.time)).length ∧
      t.causeSet .groupTrip = true ∧
      (s.store.loss = none → 14 ≤ s.store.free →
        t.store.records = s.store.records ++ [⟨s.store.next, f.stamp, f.test,
          .groupTrip g false f.line x.candidates.length (t.groups.get g).coincident f.ref⟩])

/-- A member's departure at its group (R49, R50, R53): in CLEAR with a nonzero window it opens the resolution as its one candidate;
in RESOLVING it joins as a new candidate, or changes nothing as one already there; in TRIPPED it raises the consequent count.
GROUP RESET of a TRIPPED group gives DONE: GROUP CLEAR with the consequent count, and the group CLEAR with its window (R54). In
CLEAR it gives NO EFFECT and in RESOLVING WRONG STATE, and only the slot changes. -/
def Obligations.GroupTakesDeparturesAndReset : Prop :=
  (∀ (g : GroupId) (c : Candidate) (s : State) (x : FirstOutGroup), x = s.groups.get g →
     (x.phase = .clear → x.window ≠ 0 →
       groupDeparture g c s = s.setGroup g { x with
         phase := .resolving, candidates := [c], timer := some (s.time.elapsed + 1000 * x.window.toNat) }) ∧
     (x.phase = .clear → x.window = 0 →
       ((groupDeparture g c s).groups.get g).phase = .tripped ∧
       ((groupDeparture g c s).groups.get g).firstOut = some ⟨c.line, c.stamp, c.ref⟩) ∧
     (x.phase = .resolving → (∀ d ∈ x.candidates, d.line ≠ c.line) →
       groupDeparture g c s = s.setGroup g { x with candidates := x.candidates ++ [c] }) ∧
     (x.phase = .resolving → (∃ d ∈ x.candidates, d.line = c.line) → groupDeparture g c s = s) ∧
     (x.phase = .tripped → groupDeparture g c s = s.setGroup g { x with consequents := satInc x.consequents })) ∧
  (∀ (g : GroupId) (s : State), s.inReset = false → s.slots.control.arg0.toNat = g.val →
     ((s.groups.get g).phase = .tripped →
       ∃ u : State, exec (.groupReset .control) s = .next (u.setSlot .control (s.slots.control.answered 0x08 0x0801)) ∧
         u.groups = put s.groups g (FirstOutGroup.cleared (s.groups.get g).window) ∧
         OnlyReports s { u with groups := s.groups } ∧
         (s.store.loss = none → 12 ≤ s.store.free →
           u.store.records = s.store.records ++
             [⟨s.store.next, s.now, false, .groupClear g (s.groups.get g).consequents⟩])) ∧
     ((s.groups.get g).phase = .clear →
       exec (.groupReset .control) s = .next (s.setSlot .control (s.slots.control.answered 0x08 0x0802))) ∧
     ((s.groups.get g).phase = .resolving →
       exec (.groupReset .control) s = .next (s.setSlot .control (s.slots.control.answered 0x08 0x0805))))

/-- Every step keeps what each group holds in agreement with its state (Table 18, R49 to R55). -/
def Obligations.GroupsLegalAfterEveryStep : Prop :=
  ∀ s t : State, (∀ g, (s.groups.get g).legal) → step s = .next t → ∀ g, (t.groups.get g).legal

/-! ## Correlation (Chapter 6) -/

/-- RULE ENABLE of a disabled rule gives DONE, sets its flag and clears its three counts, and nothing else changes (R121). RULE
DISABLE of an enabled rule gives DONE: every open context is ended and counted, and the flag cleared, the other rules and the
lines standing; with room in the store one LAPSE record with reason DISABLED is appended for each context, oldest first,
whatever the lapse recording (R123): the context's start stamp, the positions matched, the references held, and TEST where a
matched step was tagged (R119). Either gives NO EFFECT on a rule already so. -/
def Obligations.RuleEnableAndDisable : Prop :=
  ∀ (r : RuleId) (s : State) (x : CorrRule), s.inReset = false → s.slots.control.arg0.toNat = r.val → x = s.rules.get r →
    (x.enabled = false →
      exec (.ruleEnable .control) s = .next
        ((s.setRule r { x with enabled := true, matchCount := 0, lapseCount := 0, missedStarts := 0 }).setSlot .control
          (s.slots.control.answered 0x0C 0x0C01)) ∧
      exec (.ruleDisable .control) s = .next (s.setSlot .control (s.slots.control.answered 0x0D 0x0D02))) ∧
    (x.enabled = true →
      exec (.ruleEnable .control) s = .next (s.setSlot .control (s.slots.control.answered 0x0C 0x0C02)) ∧
      ∃ u : State, exec (.ruleDisable .control) s = .next (u.setSlot .control (s.slots.control.answered 0x0D 0x0D01)) ∧
        u.rules.get r = { x with
          enabled := false, contexts := [], lapseCount := BitVec.ofNat 16 (min 65535 (x.lapseCount.toNat + x.contexts.length)) } ∧
        (∀ k, k ≠ r → u.rules.get k = s.rules.get k) ∧ u.lines = s.lines ∧ u.alarms = s.alarms ∧ u.groups = s.groups ∧
        u.outputs = s.outputs ∧ u.time = s.time ∧ (x.contexts ≠ [] → u.exhausted = false) ∧
        (s.store.loss = none → 10 * x.contexts.length + 5 ≤ s.store.free →
          u.store.records = s.store.records ++ x.contexts.zipIdx.map fun (c, i) =>
            ⟨s.store.next + BitVec.ofNat 16 i, c.start, c.steps.toList.any (fun k => k.any StepHeld.test),
              .lapsed r .disabled (c.steps.map Option.isSome) (c.steps.map fun k => k.bind StepHeld.ref)⟩))

/-- A lapse timer's expiry frees the context, counts the lapse and ends any exhaustion episode; the LAPSE record, with the
context's start stamp and reason WINDOW, is appended exactly where lapse recording is on (R117 to R119).
A context completes: MATCH with the completing step's stamp, one more match counted, the match action asked of its output, and
the context freed (R114, R115, R117).
A line event at an enabled rule: the first open context that accepts it takes it at the position it awaits, and completes or stays
open (R111 to R114); where none accepts it, it starts a context with its deadline, lapse instant and timer, or is passed over,
or its start is refused and counted, for want of a context with the exhaustion flag and its cause (R110, R116, R117). A disabled
rule is passed over. The rules are visited in ascending number, and what lapses at once lapses after the last (R110, R111), in an
order that a free value chooses where there are several (log 6). -/
def Obligations.ContextsEndByLapseOrMatch : Prop :=
  (∀ (r : RuleId) (place : Nat) (s : State) (x : CorrRule) (c : CorrContext), s.inReset = false → s.clockRunning = true →
     x = s.rules.get r → x.contexts[place]? = some c →
     ∃ t, exec (.lapseTimerExpiry r place) s = .next t ∧
       t.rules = put s.rules r { x with contexts := x.contexts.eraseIdx place, lapseCount := satInc x.lapseCount } ∧
       t.exhausted = false ∧ OnlyReports s { t with rules := s.rules, exhausted := s.exhausted } ∧
       (x.recordLapses = false → t.store = s.store) ∧
       (x.recordLapses = true → s.store.loss = none → 15 ≤ s.store.free →
         t.store.records = s.store.records ++
           [⟨s.store.next, c.start, c.anyTest, .lapsed r .window c.positions c.refs⟩])) ∧
  (∀ (r : RuleId) (place : Nat) (c : CorrContext) (stamp : Stamp) (s : State) (x : CorrRule), x = s.rules.get r →
     (complete r place c stamp s).rules =
       put s.rules r { x with contexts := x.contexts.eraseIdx place, matchCount := satInc x.matchCount } ∧
     (complete r place c stamp s).exhausted = false ∧
     (∀ q, x.action = some q → (complete r place c stamp s).outputs = (requestPulse q s).outputs) ∧
     (x.action = none → (complete r place c stamp s).outputs = s.outputs) ∧
     (s.store.loss = none → 15 ≤ s.store.free →
       (complete r place c stamp s).store.records =
         s.store.records ++ [⟨s.store.next, stamp, c.anyTest, .matched r x.stepCount c.refs⟩])) ∧
  (∀ (x : CorrRule) (ev : CorrEvent) (c : CorrContext) (k : Nat) (p last : Fin 4) (held : StepHeld), x.ordered = true →
     (∀ q : Fin 4, (c.steps.get q).isSome = decide (q.val < k)) → last.val + 1 = k → c.steps.get last = some held →
     (x.accepts ev c = some p ↔ p.val = k ∧ k < x.stepCount ∧ x.steps.get p = ⟨ev.line, ev.direction⟩ ∧
       ev.stamp.time ≤ c.deadline ∧ held.stamp.time ≤ ev.stamp.time)) ∧
  (∀ (x : CorrRule) (ev : CorrEvent) (c : CorrContext) (p : Fin 4), x.ordered = false →
     (x.accepts ev c = some p ↔ p.val < x.stepCount ∧ x.steps.get p = ⟨ev.line, ev.direction⟩ ∧ c.steps.get p = none ∧
       ev.stamp.time ≤ c.deadline ∧ ∀ q, q < p → c.steps.get q = none → x.steps.get q ≠ ⟨ev.line, ev.direction⟩)) ∧
  (∀ (x : CorrRule) (ev : CorrEvent) (p : Fin 4),
     x.startPosition ev = some p ↔ p.val < x.stepCount ∧ x.steps.get p = ⟨ev.line, ev.direction⟩ ∧
       (x.ordered = true → p = 0) ∧ ∀ q, q < p → x.steps.get q ≠ ⟨ev.line, ev.direction⟩) ∧
  (∀ (ev : CorrEvent) (r : RuleId) (s : State) (x : CorrRule), x = s.rules.get r →
     (x.enabled = false → visitRule ev r s = (s, [])) ∧
     (∀ i c p d u, x.enabled = true → x.contexts[i]? = some c → x.accepts ev c = some p →
       (∀ j b, j < i → x.contexts[j]? = some b → x.accepts ev b = none) →
       d = { c with steps := put c.steps p (some ⟨ev.ref, ev.stamp, ev.test⟩) } →
       u = s.setRule r { x with contexts := x.contexts.set i d } →
       (x.stepCount ≤ d.heldSteps.length → visitRule ev r s = (complete r i d ev.stamp u, [])) ∧
       (d.heldSteps.length < x.stepCount → (visitRule ev r s).1 = u)) ∧
     (x.enabled = true → (∀ c ∈ x.contexts, x.accepts ev c = none) →
       (x.startPosition ev = none → visitRule ev r s = (s, [])) ∧
       (∀ p missed, x.startPosition ev = some p → missed = s.setRule r { x with missedStarts := satInc x.missedStarts } →
         (x.limit ≤ x.contexts.length → visitRule ev r s = (missed, [])) ∧
         (x.contexts.length < x.limit → 24 ≤ s.openContexts → s.exhausted = true → visitRule ev r s = (missed, [])) ∧
         (x.contexts.length < x.limit → 24 ≤ s.openContexts → s.exhausted = false →
           visitRule ev r s = (raise .contextsExhausted { missed with exhausted := true }, [])) ∧
         (∀ deadline lapse : Timestamp, x.contexts.length < x.limit → s.openContexts < 24 →
           deadline.toNat = min 0xFFFFFFFFFFFF (ev.stamp.time.toNat + 1000 * x.window.toNat) →
           lapse.toNat = min 0xFFFFFFFFFFFF (deadline.toNat + 1000 * x.grace.toNat) →
           visitRule ev r s = (s.setRule r { x with contexts := x.contexts ++ [{
               steps := put (Vector.replicate 4 none) p (some ⟨ev.ref, ev.stamp, ev.test⟩)
               start := ev.stamp
               deadline := deadline
               lapsesAt := s.time.elapsed + (lapse.toNat - s.time.counter.toNat) }] },
             if lapse ≤ s.time.counter then [(r, x.contexts.length)] else []))))) ∧
  (∀ (ev : CorrEvent) (s v : State) (due : List (RuleId × Nat)), visitRules ev (List.finRange 16) s = (v, due) →
     v = (List.finRange 16).foldl (fun t r => (visitRule ev r t).1) s ∧
     (due = [] → correlate ev s = v) ∧
     (∀ r place, due = [(r, place)] → correlate ev s = lapse .window r place v) ∧
     (2 ≤ due.length → ∃ order, order.Perm due ∧
       correlate ev s = lapseAll order { v with freeIndex := v.freeIndex + 1 }))

/-- Every step keeps every rule in range, within its concurrency limit, without contexts while disabled and without a complete
context, and the pool within 24 contexts, an exhaustion episode standing only while all are open (R107, R109, R114, R117). -/
def Obligations.RulesLegalAfterEveryStep : Prop :=
  ∀ s t : State, (∀ r, (s.rules.get r).legal) ∧ s.poolLegal → step s = .next t →
    (∀ r, (t.rules.get r).legal) ∧ t.poolLegal

/-! ## The Alarm List (Chapter 7) -/

/-- A departure, a return, a chatter on and off and a withdrawal at the Alarm List. With no entry a departure or a chatter on creates one at the end of the list
in ALERT with the event's priority, stamp, number and tag, and ALARM NEW is set (R133, R135); a departure takes a RETURNED entry
back to ALERT (R132); a return takes ALERT to RETURNED and stops its timer, and ends ACKED as the ack mode says (R134). A
chatter on at an entry sets its chatter flag and nothing else; a chatter off clears it, and is then a return at normal and a
departure at offnormal (R135). A withdrawal removes the line's entry, whatever its state, with no record and no cause, the
summaries following; with no entry it changes nothing, and DISARM LINE makes it unless the ack mode is NONE (R136). -/
def Obligations.AlarmEntryFollowsTheLine : Prop :=
  (∀ (ev : AlarmEvent) (chatter : Bool) (s : State) (timer : Fin 4 → Option Nat),
     (∀ p, timer p = if (s.alarms.escalation.get p).time = 0 then none
       else some (s.time.elapsed + 1000000 * (s.alarms.escalation.get p).time.toNat)) →
     (s.alarmOf ev.line = none →
       (if chatter then alarmChatterOn ev s else alarmDeparture ev s).alarms.entries = s.alarms.entries ++ [
         { line := ev.line, phase := .alert, priority := ev.priority, first := ev.stamp, ref := ev.ref, repeats := 0,
           test := ev.test, chatter := chatter, silenced := false, timer := timer ev.priority }] ∧
       (if chatter then alarmChatterOn ev s else alarmDeparture ev s).causeSet .alarmNew = true ∧
       alarmReturn ev.line s = s) ∧
     (∀ e, s.alarmOf ev.line = some e →
       (e.phase = .returned → (alarmDeparture ev s).alarmOf ev.line = some { e with
         phase := .alert, repeats := satInc8 e.repeats, silenced := false, test := ev.test, timer := timer e.priority }) ∧
       (e.phase ≠ .returned → alarmDeparture ev s = s) ∧
       (e.phase = .alert → (alarmReturn ev.line s).alarmOf ev.line = some { e with phase := .returned, timer := none }) ∧
       (e.phase = .acked → (s.lineTable.get ev.line).ackMode = .both →
         (alarmReturn ev.line s).alarmOf ev.line = some { e with phase := .returned }) ∧
       (e.phase = .acked → (s.lineTable.get ev.line).ackMode ≠ .both → (alarmReturn ev.line s).alarmOf ev.line = none) ∧
       (e.phase = .returned → alarmReturn ev.line s = s))) ∧
  (∀ (ev : AlarmEvent) (atNormal : Bool) (s c : State), c = { s with alarms := { s.alarms with
       entries := s.alarms.entries.map fun x => if x.line = ev.line then { x with chatter := false } else x } } →
     (∀ e, s.alarmOf ev.line = some e → alarmChatterOn ev s = { s with alarms := { s.alarms with
       entries := s.alarms.entries.map fun x => if x.line = ev.line then { x with chatter := true } else x } }) ∧
     alarmChatterOff ev atNormal s = (if atNormal then alarmReturn ev.line c else alarmDeparture ev c) ∧
     (s.alarmOf ev.line = none → c = s) ∧
     (∀ e, s.alarmOf ev.line = some e → c.alarmOf ev.line = some { e with chatter := false })) ∧
  (∀ (l : LineId) (s : State),
     (s.alarmOf l = none → alarmWithdraw l s = s) ∧
     (∀ e, s.alarmOf l = some e →
       (alarmWithdraw l s).alarms.entries = s.alarms.entries.filter (fun x => decide (x.line ≠ l)) ∧
       (alarmWithdraw l s).alarms.summaries = summariesOf (alarmWithdraw l s).alarms.entries ∧
       (s.outputs.handed = s.alarms.summaries → (alarmWithdraw l s).outputs.handed = (alarmWithdraw l s).alarms.summaries) ∧
       (alarmWithdraw l s).store = s.store ∧ (alarmWithdraw l s).irq = s.irq) ∧
     (s.inReset = false → s.slots.control.arg0.toNat = l.val → (s.lines.get l).cond ≠ .disarmed →
       ∃ t, exec (.disarmLine .control) s = .next t ∧
         ((s.lineTable.get l).ackMode = .off → t.alarms = s.alarms) ∧
         ((s.lineTable.get l).ackMode ≠ .off →
           t.alarms.entries = s.alarms.entries.filter (fun x => decide (x.line ≠ l)))))

/-- ACK LINE from either half. An ALERT entry becomes ACKED with its escalation timer stopped, a RETURNED entry is removed, each with
DONE, the summaries following and, with ACK recording on, an ACK record with the tag and the side (R138, R140); an ACKED entry
or none gives NO EFFECT and only the slot changes (R137, R138). -/
def Obligations.AckLineActsOnTheEntry : Prop :=
  ∀ (h : Half) (l : LineId) (s : State), s.inReset = false → (s.slots.get h).arg0.toNat = l.val →
    (∀ e, s.alarmOf l = some e → e.phase ≠ .acked →
      ∃ u : State, exec (.ackLine h) s = .next (u.setSlot h ((s.slots.get h).answered 0x20 0x2001)) ∧
        OnlyEvents s u ∧ u.lines = s.lines ∧ u.groups = s.groups ∧ u.rules = s.rules ∧
        (e.phase = .alert → u.alarms.entries = s.alarms.entries.map fun x =>
          if x.line = l then { x with phase := .acked, timer := none } else x) ∧
        (e.phase = .returned → u.alarms.entries = s.alarms.entries.filter fun x => decide (x.line ≠ l)) ∧
        u.alarms.summaries = summariesOf u.alarms.entries ∧
        (s.alarms.ackRecording = false → u.store = s.store) ∧
        (s.alarms.ackRecording = true → s.store.loss = none → 12 ≤ s.store.free →
          u.store.records = s.store.records ++ [⟨s.store.next, s.now, e.test,
            .ack l (if e.phase = .alert then .acked else .removed) (s.slots.get h).arg1 h⟩])) ∧
    ((s.alarmOf l = none ∨ ∃ e, s.alarmOf l = some e ∧ e.phase = .acked) →
      exec (.ackLine h) s = .next (s.setSlot h ((s.slots.get h).answered 0x20 0x2002)))

/-- ACK ALL from either half visits every entry: ALERT entries become ACKED, RETURNED ones are removed, ACKED ones are passed over,
in list order; DONE where one changed, else NO EFFECT with only the slot changed (R139). With ACK recording on and room in the
store, one ACK record is appended for each entry changed, in list order: the line, ACKED or REMOVED, the tag, the side, the
counter's value and quality, and as TEST the entry's alert test tag (R139, R140). With it off, none is (R140). -/
def Obligations.AckAllVisitsEveryEntry : Prop :=
  ∀ (h : Half) (s : State), s.inReset = false → (s.alarms.entries.map AlarmEntry.line).Nodup →
    ((∃ e ∈ s.alarms.entries, e.phase ≠ .acked) →
      ∃ u : State, exec (.ackAll h) s = .next (u.setSlot h ((s.slots.get h).answered 0x21 0x2101)) ∧
        OnlyEvents s u ∧ u.lines = s.lines ∧ u.groups = s.groups ∧ u.rules = s.rules ∧
        u.alarms.entries = s.alarms.entries.filterMap (fun e =>
          match e.phase with
          | .alert => some { e with phase := .acked, timer := none }
          | .returned => none
          | .acked => some e) ∧
        u.alarms.summaries = summariesOf u.alarms.entries ∧ (s.alarms.ackRecording = false → u.store = s.store) ∧
        ∀ changed, changed = s.alarms.entries.filter (fun e => decide (e.phase ≠ .acked)) →
          s.alarms.ackRecording = true → s.store.loss = none → 7 * changed.length + 5 ≤ s.store.free →
          u.store.records = s.store.records ++ changed.zipIdx.map fun (e, i) =>
            ⟨s.store.next + BitVec.ofNat 16 i, s.now, e.test,
              .ack e.line (if e.phase = .alert then .acked else .removed) (s.slots.get h).arg1 h⟩) ∧
    ((∀ e ∈ s.alarms.entries, e.phase = .acked) →
      exec (.ackAll h) s = .next (s.setSlot h ((s.slots.get h).answered 0x21 0x2102)))

/-- SILENCE from either half gives DONE: the silenced flag of every entry in ALERT is set, the summaries follow, and one SILENCE
record carries the count of the flags it set, 0 included, and the side (R141). -/
def Obligations.SilenceSetsTheFlags : Prop :=
  ∀ (h : Half) (s : State), s.inReset = false →
    ∃ u : State, exec (.silence h) s = .next (u.setSlot h ((s.slots.get h).answered 0x22 0x2201)) ∧
      OnlyEvents s u ∧ u.lines = s.lines ∧ u.groups = s.groups ∧ u.rules = s.rules ∧
      u.alarms.entries =
        (s.alarms.entries.map fun e => if e.phase = .alert then { e with silenced := true } else e) ∧
      u.alarms.summaries = summariesOf u.alarms.entries ∧
      (s.store.loss = none → 11 ≤ s.store.free →
        u.store.records = s.store.records ++ [⟨s.store.next, s.now, false,
          .silence (s.alarms.entries.filter fun e => e.phase = .alert && !e.silenced).length h⟩])

/-- An escalation timer's expiry in ALERT: the priority rises by 1 up to 3, the silenced flag is cleared, ESCALATE is appended with
the new priority and the ESCALATED cause set, the action of the priority left is asked for, and the timer starts for the new
priority (R143, R144). -/
def Obligations.EscalationRaisesThePriority : Prop :=
  ∀ (l : LineId) (s : State) (e : AlarmEntry) (p : Fin 4), s.inReset = false → s.clockRunning = true →
    s.alarmOf l = some e → e.phase = .alert → e.timer.isSome = true → p.val = min 3 (e.priority.val + 1) →
    ∃ t, exec (.escalationTimerExpiry l) s = .next t ∧ OnlyEvents s t ∧
      t.lines = s.lines ∧ t.groups = s.groups ∧ t.rules = s.rules ∧
      t.alarmOf l = some { e with
        priority := p
        silenced := false
        timer := if (s.alarms.escalation.get p).time = 0 then none
          else some (s.time.elapsed + 1000000 * (s.alarms.escalation.get p).time.toNat) } ∧
      t.causeSet .escalated = true ∧
      t.outputs.lines = (match (s.alarms.escalation.get e.priority).action with
        | none => s.outputs.lines
        | some q => (requestPulse q s).outputs.lines) ∧
      (s.store.loss = none → 11 ≤ s.store.free →
        t.store.records = s.store.records ++ [⟨s.store.next, s.now, e.test, .escalate l p⟩])

/-- Every step keeps at most one entry for each line, no escalation timer running outside ALERT, the summaries those of the entries,
and what the Output Unit holds the summaries last handed, which are those (R130, R143, R146, R147). -/
def Obligations.AlarmsLegalAfterEveryStep : Prop :=
  ∀ s t : State, s.alarms.legal ∧ s.outputs.handed = summariesOf s.alarms.entries → step s = .next t →
    t.alarms.legal ∧ t.outputs.handed = summariesOf t.alarms.entries

/-! ## Outputs (Chapter 8) -/

/-- The PULSE command. In PULSE mode the request starts, restarts or queues as the table of R159 says, with DONE; with 15 requests
held under QUEUE it is dropped and counted, with NO EFFECT; in any other mode it is WRONG STATE and only the slot changes
(R159, R165, R166). A request from the classifier, the engine or the Alarm List is taken the same way in PULSE mode, and in any
other mode is dropped and counted (R158, R166). -/
def Obligations.PulseCommandRequests : Prop :=
  ∀ (q : OutputId) (s : State) (o : OutputLine) (started : OutputLine), s.inReset = false →
    s.slots.control.arg0.toNat = q.val → o = s.outputs.lines.get q →
    started = { o with phase := .pulsing, timer := some (s.time.elapsed + 1000 * o.length.toNat) } →
    (o.mode = .pulse → o.phase = .idle ∨ o.retrigger = .restart →
      exec (.pulse .control) s = .next
        ((s.setOutput q started).setSlot .control (s.slots.control.answered 0x14 0x1401))) ∧
    (o.mode = .pulse → o.phase ≠ .idle → o.retrigger = .queue → o.queued < 15 →
      exec (.pulse .control) s = .next
        ((s.setOutput q { o with queued := o.queued + 1 }).setSlot .control (s.slots.control.answered 0x14 0x1401))) ∧
    (o.mode = .pulse → o.phase ≠ .idle → o.retrigger = .queue → 15 ≤ o.queued →
      exec (.pulse .control) s = .next
        ((s.setOutput q { o with dropped := satInc o.dropped }).setSlot .control
          (s.slots.control.answered 0x14 0x1402))) ∧
    (o.mode ≠ .pulse →
      exec (.pulse .control) s = .next (s.setSlot .control (s.slots.control.answered 0x14 0x1405))) ∧
    (o.mode ≠ .pulse → requestPulse q s = s.setOutput q { o with dropped := satInc o.dropped }) ∧
    (o.mode = .pulse → o.phase = .idle ∨ o.retrigger = .restart → requestPulse q s = s.setOutput q started) ∧
    (o.mode = .pulse → o.phase ≠ .idle → o.retrigger = .queue → requestPulse q s = s.setOutput q
      (if o.queued < 15 then { o with queued := o.queued + 1 } else { o with dropped := satInc o.dropped }))

/-- The pulse timers and the flash phase. The length timer's expiry ends the pulse: into GAP under QUEUE, and under RESTART into IDLE
with nothing queued (R160). The gap timer's expiry starts the next queued pulse, or rests in IDLE (R161). The flash phase goes to
its next boundary of 125 ms, and from 1000 ms to 0 (R155; log 13). -/
def Obligations.PulseTimersAndFlashPhase : Prop :=
  ∀ (q : OutputId) (s : State) (o : OutputLine), s.inReset = false → s.clockRunning = true → o = s.outputs.lines.get q →
    (o.phase = .pulsing → o.timer.isSome = true → o.retrigger = .queue ∨ o.queued ≠ 0 →
      exec (.lengthTimerExpiry q) s = .next
        (s.setOutput q { o with phase := .gap, timer := some (s.time.elapsed + 1000 * o.gap.toNat) })) ∧
    (o.phase = .pulsing → o.timer.isSome = true → o.retrigger = .restart → o.queued = 0 →
      exec (.lengthTimerExpiry q) s = .next (s.setOutput q { o with phase := .idle, timer := none })) ∧
    (o.phase = .gap → o.timer.isSome = true → o.queued ≠ 0 →
      exec (.gapTimerExpiry q) s = .next (s.setOutput q { o with
        phase := .pulsing, timer := some (s.time.elapsed + 1000 * o.length.toNat), queued := o.queued - 1 })) ∧
    (o.phase = .gap → o.timer.isSome = true → o.queued = 0 →
      exec (.gapTimerExpiry q) s = .next (s.setOutput q { o with phase := .idle, timer := none })) ∧
    (s.outputs.flash < 1000000 → ∃ n, n % 125000 = 0 ∧ n < 1000000 ∧
      (s.outputs.flash < 875000 → s.outputs.flash < n ∧ n ≤ s.outputs.flash + 125000) ∧
      (875000 ≤ s.outputs.flash → n = 0) ∧
      exec .flashPhase s = .next { s with outputs := { s.outputs with flash := n } })

/-- The computed level of an output by its mode, and its pin by its polarity and drive (R152, R155 to R157). A request output is
driven low while it is asserted and released while it is not (R202). -/
def Obligations.OutputPinFollowsModeAndDrive : Prop :=
  ∀ (s : State) (q : OutputId) (o : OutputLine), o = s.outputs.lines.get q →
    (o.mode = .direct → s.outputs.computed q = s.outputs.data.getLsbD q.val) ∧
    (o.mode = .lamp → s.outputs.computed q = match (s.outputs.handed.get o.threshold).lamp with
      | .off => false
      | .steady => true
      | .slow => decide (s.outputs.flash / 1000 % 1000 < 500)
      | .fast => decide (s.outputs.flash / 1000 % 250 < 125)) ∧
    (o.mode = .horn → s.outputs.computed q = (s.outputs.handed.get o.threshold).horn) ∧
    (o.mode = .pulse → s.outputs.computed q = decide (o.phase = .pulsing)) ∧
    (o.drive = .highZ → s.outputPin q = .released) ∧
    (o.drive = .pushPull → s.outputPin q =
      if s.outputs.computed q = decide (o.polarity = .activeHigh) then .drivenHigh else .drivenLow) ∧
    (o.drive = .openDrain → s.outputPin q =
      if s.outputs.computed q = decide (o.polarity = .activeHigh) then .released else .drivenLow) ∧
    (∀ h, (s.irqAsserted h = true → s.requestPin h = .drivenLow) ∧ (s.irqAsserted h = false → s.requestPin h = .released))

/-- Every step keeps every output's pulse state legal: IDLE outside PULSE mode, nothing queued in IDLE, a timer in PULSING and
GAP, at most 15 requests held, pulse times above 0 (R159, R164, Tables 33 and 34). -/
def Obligations.OutputsLegalAfterEveryStep : Prop :=
  ∀ s t : State, (∀ q, (s.outputs.lines.get q).legal) → step s = .next t → ∀ q, (t.outputs.lines.get q).legal

/-! ## The table port and the formats (Chapter 10) -/

/-- Reads through the ports. TABLE DATA and MIRROR DATA return the addressed word and step their own port's address: the next word, after
the entry's last word the next entry, after the last entry entry 0 (R195, R197). TABLE STATUS returns the REFUSED flag with its
reason, then clears both (R196). Nothing else changes.
What the words are, item by item in the bits of Tables 43 and 44: a LINE entry's configuration, conditioning status (R21) and alarm
status (R148), a PROFILE entry, a GROUP entry with its status (R57), a RULE entry with its flag, open contexts and counts (R126),
an OUTPUT entry with its status (R167), an ESCALATION entry; and the STORE, LINE VIEWS and ALARM MASKS pages (R81, R199). The
codes are those of Tables 39, 40, 43 and 44. Model's choices: with no chatter window open the transition count reads 0 (log 28),
an absent record number reads 0 (logs 16 and 29), the injected level reads 0 with the test flag clear (log 17), a group's
first-out items read 0 with no first-out (log 16). Counts take the low bits of their field, which holds every value they take. -/
def Obligations.PortReadsReturnAndStep : Prop :=
  (∀ (s : State) (p q : PortAddress) (entries words : Nat), s.inReset = false →
    (tableShape p.select = some (entries, words) → p.index < entries → p.offset < words →
      q = (if p.offset + 1 < words then { p with offset := p.offset + 1 }
        else if p.index + 1 < entries then { p with index := p.index + 1, offset := 0 }
        else { p with index := 0, offset := 0 }) →
      (p = s.ports.control →
        exec .tableDataRead s = .next { s with lastRead := s.tableWord p, ports := ⟨q, s.ports.archive⟩ }) ∧
      (p = s.ports.archive →
        exec .mirrorDataRead s = .next { s with lastRead := s.tableWord p, ports := ⟨s.ports.control, q⟩ })) ∧
    (s.tableStatus = none → exec .tableStatusRead s = .next { s with lastRead := 0 }) ∧
    (∀ r, s.tableStatus = some r →
      exec .tableStatusRead s = .next { s with lastRead := BitVec.ofNat 16 (1 + 16 * r.code), tableStatus := none })) ∧
  (∀ (s : State) (l : LineId) (e : LineEntry) (x : LineState) (w : Nat → Word), e = s.lineTable.get l → x = s.lines.get l →
    (w = fun n => s.tableWord ⟨0, l.val, n⟩) →
    ((w 0).getLsbD 0 = decide (e.normal = .high) ∧ (w 0).toNat / 2 % 4 = e.profile.val ∧ (w 0).getLsbD 3 = e.snapshot ∧
      (w 0).toNat / 16 % 4 = e.ackMode.code ∧ (w 0).getLsbD 6 = e.recordDepartures ∧ (w 0).getLsbD 7 = e.recordReturns ∧
      (w 0).toNat / 256 % 16 = e.cls.toNat ∧ (w 0).toNat / 4096 = e.priority.val) ∧
    ((w 1).toNat % 16 = (e.group.map Fin.val).getD 15 ∧ (w 1).toNat / 16 % 16 = (e.departAction.map Fin.val).getD 15 ∧
      (w 1).toNat / 256 = (e.returnAction.map Fin.val).getD 15) ∧
    ((w 2).toNat % 8 = x.cond.code ∧ (w 2).getLsbD 3 = x.injected.isSome ∧
      (w 2).getLsbD 4 = decide (x.injected = some .high) ∧
      (w 2).toNat / 32 % 4 = (match x.qualified with | none => 0 | some .low => 1 | some .high => 2) ∧
      (w 2).getLsbD 7 = x.window.isSome ∧ (w 2).toNat / 256 = (match x.window with | none => 0 | some k => k.count % 16)) ∧
    w 3 = (if x.cond = .chatter then x.suppressed else 0) ∧
    (s.alarmOf l = none → ∀ n, 4 ≤ n → n ≤ 9 → w n = 0) ∧
    (∀ (i : Nat) (a : AlarmEntry), (s.alarms.entries.map AlarmEntry.line).Nodup → s.alarms.entries[i]? = some a → a.line = l →
      ((w 4).getLsbD 0 = true ∧ (w 4).toNat / 2 % 4 = a.phase.code ∧ (w 4).toNat / 8 % 4 = a.priority.val ∧
        (w 4).getLsbD 5 = a.chatter ∧ (w 4).getLsbD 6 = a.silenced ∧ (w 4).getLsbD 7 = a.test ∧
        (w 4).getLsbD 8 = a.timer.isSome ∧ (w 4).getLsbD 9 = a.ref.isSome ∧ (w 4).toNat / 1024 = i + 1) ∧
      (w 5).toNat % 256 = a.repeats.toNat ∧ (w 5).toNat / 256 = a.first.quality.code ∧ w 6 = a.ref.getD 0 ∧
      w 7 = a.first.time.extractLsb' 32 16 ∧ w 8 = a.first.time.extractLsb' 16 16 ∧
      w 9 = a.first.time.extractLsb' 0 16)) ∧
  (∀ (s : State) (k : Fin 4) (x : Profile) (w : Nat → Word), x = s.profiles.get k →
    (w = fun n => s.tableWord ⟨1, k.val, n⟩) →
    w 0 = x.checkTime ∧ (w 1).toNat = x.chatterLimit.val ∧ w 2 = x.chatterWindow ∧ w 3 = x.releaseTime) ∧
  (∀ (s : State) (g : GroupId) (x : FirstOutGroup) (w : Nat → Word), x = s.groups.get g →
    (w = fun n => s.tableWord ⟨2, g.val, n⟩) →
    w 0 = x.window ∧ (w 1).toNat % 4 = x.phase.code ∧ (w 1).getLsbD 2 = x.discontinuity ∧
    (w 2).toNat = (match x.phase with
      | .clear => 0
      | .resolving => x.candidates.length % 64
      | .tripped => x.candidateCount % 64) ∧
    w 3 = x.consequents ∧
    (∀ j : LineId, (w (4 + j.val / 16)).getLsbD (j.val % 16) = (match x.phase with
      | .clear => false
      | .resolving => x.candidates.any (fun c => decide (c.line = j))
      | .tripped => x.coincident.getLsbD j.val)) ∧
    (x.firstOut = none → (w 1).toNat / 8 = 0 ∧ w 6 = 0 ∧ w 7 = 0 ∧ w 8 = 0 ∧ w 9 = 0) ∧
    (∀ f, x.firstOut = some f → (w 1).getLsbD 3 = f.ref.isSome ∧ (w 1).toNat / 16 % 16 = f.stamp.quality.code ∧
      (w 1).toNat / 256 % 32 = f.line.val ∧ (w 1).toNat / 8192 = 1 ∧ w 6 = f.ref.getD 0 ∧
      w 7 = f.stamp.time.extractLsb' 32 16 ∧ w 8 = f.stamp.time.extractLsb' 16 16 ∧
      w 9 = f.stamp.time.extractLsb' 0 16) ∧
    (x.legal → x.phase = .clear → ∀ n, 1 ≤ n → n ≤ 9 → w n = 0)) ∧
  (∀ (s : State) (r : RuleId) (x : CorrRule) (w : Nat → Word), x = s.rules.get r →
    (w = fun n => s.tableWord ⟨3, r.val, n⟩) →
    ((w 0).toNat % 8 = x.stepCount % 8 ∧ (w 0).getLsbD 3 = x.ordered ∧ (w 0).getLsbD 4 = x.recordLapses ∧
      (w 0).toNat / 32 % 8 = x.limit % 8 ∧ (w 0).toNat / 256 = (x.action.map Fin.val).getD 15) ∧
    (∀ p : Fin 4, (w (1 + p.val)).toNat % 32 = (x.steps.get p).line.val ∧
      (w (1 + p.val)).toNat / 32 = (x.steps.get p).direction.code) ∧
    w 5 = x.window ∧ w 6 = x.grace ∧ (w 7).getLsbD 0 = x.enabled ∧ (w 7).toNat / 2 = x.contexts.length % 8 ∧
    w 8 = x.matchCount ∧ w 9 = x.lapseCount ∧ w 10 = x.missedStarts) ∧
  (∀ (s : State) (q : OutputId) (o : OutputLine) (w : Nat → Word), o = s.outputs.lines.get q →
    (w = fun n => s.tableWord ⟨4, q.val, n⟩) →
    ((w 0).toNat % 4 = o.mode.code ∧ (w 0).toNat / 4 % 4 = o.drive.code ∧
      (w 0).getLsbD 4 = decide (o.polarity = .activeLow) ∧ (w 0).toNat / 32 % 8 = o.threshold.val ∧
      (w 0).toNat / 256 = o.retrigger.code) ∧
    w 1 = o.length ∧ w 2 = o.gap ∧
    ((w 3).getLsbD 0 = s.outputs.computed q ∧ (w 3).getLsbD 1 = decide (s.outputPin q ≠ .released) ∧
      (w 3).toNat / 4 % 4 = o.phase.code ∧ (w 3).getLsbD 4 = decide (o.phase = .pulsing ∧ o.timer.isSome = true) ∧
      (w 3).getLsbD 5 = decide (o.phase = .gap ∧ o.timer.isSome = true) ∧ (w 3).toNat / 64 % 4 = 0 ∧
      (w 3).toNat / 256 = o.queued % 16) ∧
    w 4 = o.dropped) ∧
  (∀ (s : State) (k : Fin 4) (x : EscalationEntry) (w : Nat → Word), x = s.alarms.escalation.get k →
    (w = fun n => s.tableWord ⟨5, k.val, n⟩) → w 0 = x.time ∧ (w 1).toNat = (x.action.map Fin.val).getD 15) ∧
  (∀ (s : State) (w : Nat → Word), (w = fun n => s.tableWord ⟨6, 0, n⟩) →
    w 0 = BitVec.ofNat 16 s.store.records.length ∧ w 1 = (s.store.records.head?.map Record.number).getD 0 ∧
    w 2 = (s.store.records.getLast?.map Record.number).getD 0 ∧ w 3 = s.store.next ∧
    (s.store.loss = none → w 4 = 0 ∧ w 5 = 0 ∧ w 6 = 0) ∧
    (∀ p, s.store.loss = some p → w 4 = p.count.extractLsb' 16 16 ∧ w 5 = p.count.extractLsb' 0 16 ∧ w 6 = p.first)) ∧
  (∀ (s : State) (w v : Nat → Word), (w = fun n => s.tableWord ⟨7, 0, n⟩) → (v = fun n => s.tableWord ⟨8, 0, n⟩) →
    ∀ (j : LineId) (x : LineState) (b n : Nat), x = s.lines.get j → b = j.val % 16 → n = j.val / 16 →
      (w n).getLsbD b = decide (x.effective = .high) ∧
      (w (2 + n)).getLsbD b = decide (x.cond ≠ .disarmed ∧ x.qualified = some (s.lineTable.get j).normal.flip) ∧
      (w (4 + n)).getLsbD b = decide (x.cond ≠ .disarmed) ∧ (w (6 + n)).getLsbD b = decide (x.cond = .chatter) ∧
      (v n).getLsbD b = s.alarms.entries.any (fun e => decide (e.line = j ∧ e.phase = .alert)) ∧
      (v (2 + n)).getLsbD b = s.alarms.entries.any (fun e => decide (e.line = j ∧ e.phase = .acked)) ∧
      (v (4 + n)).getLsbD b = s.alarms.entries.any (fun e => decide (e.line = j ∧ e.phase = .returned)) ∧
      (v (6 + n)).getLsbD b = s.alarms.entries.any (fun e => decide (e.line = j) && e.silenced)) ∧
  ([Cond.disarmed, .settling, .normal, .departing, .offnormal, .returning, .chatter].map Cond.code = [0, 1, 2, 3, 4, 5, 6] ∧
    [AckMode.off, .depart, .both].map AckMode.code = [0, 1, 2] ∧
    [AlarmPhase.alert, .acked, .returned].map AlarmPhase.code = [0, 1, 2] ∧
    [GroupPhase.clear, .resolving, .tripped].map GroupPhase.code = [0, 1, 2] ∧
    [Direction.depart, .giveBack].map Direction.code = [0, 1] ∧
    [OutputMode.direct, .lamp, .horn, .pulse].map OutputMode.code = [0, 1, 2, 3] ∧
    [Drive.pushPull, .openDrain, .highZ].map Drive.code = [0, 1, 2] ∧
    [Retrigger.restart, .queue].map Retrigger.code = [0, 1] ∧
    [PulsePhase.idle, .pulsing, .gap].map PulsePhase.code = [0, 1, 2] ∧
    [Quality.free, .acquiring, .locked, .holdover].map Quality.code = [0, 1, 2, 3] ∧
    [ResultCode.badOperand, .tableInUse].map ResultCode.code = [4, 7])

/-- A write of TABLE ADDRESS or MIRROR ADDRESS sets select, index and offset together where they name a word that exists, and is
ignored where they do not; after either write, whatever word it carries, a valid address is valid still; and after hardware reset
both addresses are 0000h (R194). -/
def Obligations.AddressWritesNameExistingWords : Prop :=
  ∀ (s : State) (v : Word) (p : PortAddress), s.inReset = false →
    p = ⟨v.toNat / 4096 % 16, v.toNat / 16 % 32, v.toNat % 16⟩ →
    ((∃ entries words, tableShape p.select = some (entries, words) ∧ p.index < entries ∧ p.offset < words) →
      exec (.tableAddressWrite v) s = .next { s with ports := ⟨p, s.ports.archive⟩ } ∧
      exec (.mirrorAddressWrite v) s = .next { s with ports := ⟨s.ports.control, p⟩ }) ∧
    (¬(∃ entries words, tableShape p.select = some (entries, words) ∧ p.index < entries ∧ p.offset < words) →
      exec (.tableAddressWrite v) s = .next s ∧ exec (.mirrorAddressWrite v) s = .next s) ∧
    (∀ h, (s.ports.get h).valid = true → ∀ c ∈ [Instr.tableAddressWrite v, .mirrorAddressWrite v],
      ∃ t, exec c s = .next t ∧ (t.ports.get h).valid = true) ∧
    (∀ h, (State.reset.ports.get h) = ⟨0, 0, 0⟩)

/-- Every step keeps both port addresses on words that exist (R194, R195). -/
def Obligations.PortAddressesStayValid : Prop :=
  ∀ s t : State, (∀ h, (s.ports.get h).valid = true) → step s = .next t → ∀ h, (t.ports.get h).valid = true

/-- A write of TABLE DATA steps the control port's address whatever its outcome (R195). It is refused with TABLE IN USE at an entry that may
not be written in its present state, with BAD OPERAND where a field is out of range (the ranges are AcceptedWordsReadBack's); the
reason of the first refusal stands and nothing else changes (R196, R198); a read-only word or page ignores it (R199). An
accepted word is taken whole: the addressed entry becomes the one its word gives, and nothing else changes. -/
def Obligations.TableDataWriteIsJudged : Prop :=
  ∀ (s : State) (w : Word) (p : PortAddress), s.inReset = false → p = s.ports.control → p.valid = true →
    (∃ t, exec (.tableDataWrite w) s = .next t ∧ t.ports = ⟨p.step, s.ports.archive⟩) ∧
    (∀ reason, writeTable s p w = .refused reason →
      exec (.tableDataWrite w) s = .next { s with
        ports := ⟨p.step, s.ports.archive⟩, tableStatus := some (s.tableStatus.getD reason) }) ∧
    (writeTable s p w = .ignored → exec (.tableDataWrite w) s = .next { s with ports := ⟨p.step, s.ports.archive⟩ }) ∧
    (∀ u, writeTable s p w = .accepted u →
      exec (.tableDataWrite w) s = .next { u with ports := ⟨p.step, s.ports.archive⟩ } ∧
      u = { s with lineTable := u.lineTable, profiles := u.profiles, groups := u.groups, rules := u.rules,
                   outputs := { s.outputs with lines := u.outputs.lines },
                   alarms := { s.alarms with escalation := u.alarms.escalation } }) ∧
    (p.select = 0 → p.offset < 2 → (s.lines.get (Fin.ofNat 32 p.index)).cond ≠ .disarmed →
      writeTable s p w = .refused .tableInUse) ∧
    (p.select = 1 → (∃ l, (s.lines.get l).cond ≠ .disarmed ∧ (s.lineTable.get l).profile = Fin.ofNat 4 p.index) →
      writeTable s p w = .refused .tableInUse) ∧
    (p.select = 2 → p.offset = 0 → (s.groups.get (Fin.ofNat 8 p.index)).phase ≠ .clear →
      writeTable s p w = .refused .tableInUse) ∧
    (p.select = 3 → p.offset < 7 → (s.rules.get (Fin.ofNat 16 p.index)).enabled = true →
      writeTable s p w = .refused .tableInUse) ∧
    (6 ≤ p.select ∨ (p.select = 0 ∧ 2 ≤ p.offset) ∨ (p.select = 2 ∧ 1 ≤ p.offset) ∨ (p.select = 3 ∧ 7 ≤ p.offset) ∨
      (p.select = 4 ∧ p.offset = 3) → writeTable s p w = .ignored) ∧
    (p.select = 2 → p.offset = 0 → (s.groups.get (Fin.ofNat 8 p.index)).phase = .clear →
      writeTable s p w = .accepted (s.setGroup (Fin.ofNat 8 p.index)
        { s.groups.get (Fin.ofNat 8 p.index) with window := w })) ∧
    (p.select = 4 → p.offset = 4 →
      writeTable s p w = .accepted (s.setOutput (Fin.ofNat 8 p.index)
        { s.outputs.lines.get (Fin.ofNat 8 p.index) with dropped := 0 })) ∧
    (∀ l : LineId, p.select = 0 → p.index = l.val → p.offset < 2 → (s.lines.get l).cond = .disarmed →
      ∀ entry, entry = (if p.offset = 0 then (s.lineTable.get l).setWord0 w else (s.lineTable.get l).setWord1 w) →
      (entry = none → writeTable s p w = .refused .badOperand) ∧
      (∀ x, entry = some x → writeTable s p w = .accepted { s with lineTable := put s.lineTable l x })) ∧
    (∀ k : Fin 4, p.select = 1 → p.index = k.val →
      (∀ l, (s.lines.get l).cond = .disarmed ∨ (s.lineTable.get l).profile ≠ k) →
      ((s.profiles.get k).setWord p.offset w = none → writeTable s p w = .refused .badOperand) ∧
      (∀ x, (s.profiles.get k).setWord p.offset w = some x →
        writeTable s p w = .accepted { s with profiles := put s.profiles k x })) ∧
    (∀ r : RuleId, p.select = 3 → p.index = r.val → p.offset < 7 → (s.rules.get r).enabled = false →
      ((s.rules.get r).setWord p.offset w = none → writeTable s p w = .refused .badOperand) ∧
      (∀ x, (s.rules.get r).setWord p.offset w = some x → writeTable s p w = .accepted (s.setRule r x))) ∧
    (∀ q : OutputId, p.select = 4 → p.index = q.val → p.offset < 3 →
      ((s.outputs.lines.get q).setWord p.offset w = none → writeTable s p w = .refused .badOperand) ∧
      (∀ x, (s.outputs.lines.get q).setWord p.offset w = some x → writeTable s p w = .accepted (s.setOutput q x))) ∧
    (∀ k : Fin 4, p.select = 5 → p.index = k.val →
      ((s.alarms.escalation.get k).setWord p.offset w = none → writeTable s p w = .refused .badOperand) ∧
      (∀ x, (s.alarms.escalation.get k).setWord p.offset w = some x →
        writeTable s p w = .accepted { s with alarms := { s.alarms with escalation := put s.alarms.escalation k x } }))

/-- A configuration word that a write accepts reads back as written, its unassigned bits 0, and the entry's other words stand; and the
words that are refused are those with a field out of the range Tables 43 and 44 give (R198). A write of an output's mode sets
the pulse state as R164 gives, and of its lengths the length alone. -/
def Obligations.AcceptedWordsReadBack : Prop :=
  (∀ (e x : LineEntry) (w : Word), e.setWord0 w = some x → x.word0.toNat = w.toNat % 2 ^ 14 ∧ x.word1 = e.word1) ∧
  (∀ (e x : LineEntry) (w : Word), e.setWord1 w = some x → x.word1.toNat = w.toNat % 2 ^ 12 ∧ x.word0 = e.word0) ∧
  (∀ (p x : Profile) (n : Nat) (w : Word), p.setWord n w = some x →
    (x.word n).toNat = w.toNat % (if n = 1 then 2 ^ 4 else 2 ^ 16)) ∧
  (∀ (r x : CorrRule) (n : Nat) (w : Word), r.setWord n w = some x →
    (x.word n).toNat = w.toNat % (if n = 0 then 2 ^ 12 else if n ≤ 4 then 2 ^ 6 else 2 ^ 16)) ∧
  (∀ (o x : OutputLine) (w : Word), o.setWord0 w = some x → x.word0.toNat = w.toNat % 2 ^ 9) ∧
  (∀ (e x : EscalationEntry) (n : Nat) (w : Word), e.setWord n w = some x →
    (x.word n).toNat = w.toNat % (if n = 1 then 2 ^ 4 else 2 ^ 16)) ∧
  (∀ (e : LineEntry) (w : Word), e.setWord0 w = none ↔ w.toNat / 16 % 4 = 3) ∧
  (∀ (e : LineEntry) (w : Word), e.setWord1 w = none ↔
    (8 ≤ w.toNat % 16 ∧ w.toNat % 16 ≠ 15) ∨ (8 ≤ w.toNat / 16 % 16 ∧ w.toNat / 16 % 16 ≠ 15) ∨
    (8 ≤ w.toNat / 256 % 16 ∧ w.toNat / 256 % 16 ≠ 15)) ∧
  (∀ (o : OutputLine) (w : Word), o.setWord0 w = none ↔ w.toNat / 4 % 4 = 3 ∨ 4 ≤ w.toNat / 32 % 8) ∧
  (∀ (r : CorrRule) (w : Word), r.setWord0 w = none ↔
    w.toNat % 8 < 2 ∨ 4 < w.toNat % 8 ∨ w.toNat / 32 % 8 < 1 ∨ 4 < w.toNat / 32 % 8 ∨
    (8 ≤ w.toNat / 256 % 16 ∧ w.toNat / 256 % 16 ≠ 15)) ∧
  (∀ (p : Profile) (n : Nat) (w : Word), n < 4 →
    (p.setWord n w = none ↔ (n = 1 ∧ w.toNat % 16 = 1) ∨ ((n = 2 ∨ n = 3) ∧ w = 0))) ∧
  (∀ (r : CorrRule) (n : Nat) (w : Word), n < 7 →
    (r.setWord n w = none ↔ (n = 0 ∧ r.setWord0 w = none) ∨ (n = 5 ∧ w = 0))) ∧
  (∀ (o : OutputLine) (n : Nat) (w : Word), n < 3 →
    (o.setWord n w = none ↔ (n = 0 ∧ o.setWord0 w = none) ∨ (n ≠ 0 ∧ w = 0))) ∧
  (∀ (e : EscalationEntry) (n : Nat) (w : Word), n < 2 →
    (e.setWord n w = none ↔ (n = 0 ∧ 4095 < w.toNat) ∨ (n = 1 ∧ 8 ≤ w.toNat % 16 ∧ w.toNat % 16 ≠ 15))) ∧
  (∀ (p x : Profile) (n m : Nat) (w : Word), p.setWord n w = some x → m ≠ n → x.word m = p.word m) ∧
  (∀ (r x : CorrRule) (n m : Nat) (w : Word), r.setWord n w = some x → m ≠ n → x.word m = r.word m) ∧
  (∀ (e x : EscalationEntry) (n m : Nat) (w : Word), e.setWord n w = some x → m ≠ n → x.word m = e.word m) ∧
  (∀ (o x : OutputLine) (w : Word),
    (o.setWord 0 w = some x → o.setWord0 w = some x ∧ x.length = o.length ∧ x.gap = o.gap ∧ x.dropped = o.dropped ∧
      (x.mode = o.mode → x.phase = o.phase ∧ x.timer = o.timer ∧ x.queued = o.queued) ∧
      (x.mode ≠ o.mode → x.phase = .idle ∧ x.timer = none ∧ x.queued = 0)) ∧
    (o.setWord 1 w = some x → x = { o with length := w }) ∧ (o.setWord 2 w = some x → x = { o with gap := w })) ∧
  (∀ (s : State) (q : OutputId) (x : OutputLine), (s.setOutput q x).outputWord q 0 = x.word0 ∧
    (s.setOutput q x).outputWord q 1 = x.length ∧ (s.setOutput q x).outputWord q 2 = x.gap)

/-- The words of a record: its length is 6 to 13; the first header word holds the kind, the length less 5, TEST and the quality, and is
never 0000h; then the number and the timestamp, high word first (R60, R62, R200, Table 45). Bits 12 to 15 of that word and the body
that follows, kind by kind: the code of the kind, the presence flags of the four kinds with optional parts and the side of the others
(R63, Tables 20 and 45), each field of word 5 in its bits, and the further words in their order (R65, R201, Table 46). A mask takes
F0 to F15 first, a count and a 48-bit value their high word first. Counts take the low bits of their field, which holds every
value they take. -/
def Obligations.RecordWordsCarryTheHeader : Prop :=
  (∀ r : Record, 6 ≤ r.len ∧ r.len ≤ 13 ∧ r.words.length = r.len ∧
    ∃ rest, r.words = [r.head, r.number, r.stamp.time.extractLsb' 32 16, r.stamp.time.extractLsb' 16 16,
      r.stamp.time.extractLsb' 0 16] ++ rest ∧
    r.head.toNat % 32 = r.body.kind ∧ 1 ≤ r.body.kind ∧ r.body.kind ≤ 17 ∧ r.head ≠ 0 ∧
    r.head.toNat / 32 % 16 + 5 = r.len ∧ r.head.getLsbD 9 = r.test ∧
    r.head.toNat / 1024 % 4 = r.stamp.quality.code ∧ r.head.toNat / 4096 = r.body.topBits ∧ rest = r.body.words) ∧
  (∀ (line : LineId) (d : Direction) (c : BitVec 4) (p : Fin 4) (g : Option GroupId) (m : Option LineMask) (b : Body),
    b = .line line d c p g m → b.kind = 1 ∧ b.topBits = (if m.isSome then 1 else 0) ∧
    ∃ w, b.words = w :: (m.map fun k => [k.extractLsb' 0 16, k.extractLsb' 16 16]).getD [] ∧
      w.toNat % 32 = line.val ∧ w.toNat / 32 % 2 = d.code ∧ w.toNat / 64 % 4 = p.val ∧ w.toNat / 256 % 16 = c.toNat ∧
      w.toNat / 4096 = (g.map Fin.val).getD 15) ∧
  (∀ (line : LineId) (v : Level) (n : Word) (b : Body),
    (b = .armed line v → b.kind = 2 ∧ b.topBits = 0 ∧
      ∃ w, b.words = [w] ∧ w.toNat % 32 = line.val ∧ w.toNat / 32 = v.code) ∧
    (b = .disarmed line → b.kind = 3 ∧ b.topBits = 1 ∧ b.words = [BitVec.ofNat 16 line.val]) ∧
    (b = .chatterOn line v → b.kind = 4 ∧ b.topBits = 0 ∧
      ∃ w, b.words = [w] ∧ w.toNat % 32 = line.val ∧ w.toNat / 32 = v.code) ∧
    (b = .chatterOff line v n → b.kind = 5 ∧ b.topBits = 0 ∧
      ∃ w, b.words = [w, n] ∧ w.toNat % 32 = line.val ∧ w.toNat / 32 = v.code)) ∧
  (∀ (g : GroupId) (d : Bool) (f : LineId) (n : Nat) (m : LineMask) (ref : Option Word) (k : Word) (b : Body),
    (b = .groupTrip g d f n m ref → b.kind = 6 ∧ b.topBits = (if ref.isSome then 1 else 0) ∧
      ∃ w, b.words = [w, m.extractLsb' 0 16, m.extractLsb' 16 16] ++ ref.toList ∧ w.toNat % 8 = g.val ∧
        w.getLsbD 3 = d ∧ w.toNat / 16 % 32 = f.val ∧ w.toNat / 512 = n % 64) ∧
    (b = .groupClear g k → b.kind = 7 ∧ b.topBits = 1 ∧ b.words = [BitVec.ofNat 16 g.val, k])) ∧
  (∀ (r : RuleId) (n : Nat) (reason : LapseReason) (steps : Vector Bool 4) (refs : Vector (Option Word) 4) (b : Body),
    (b = .matched r n refs → b.kind = 8 ∧ (∀ p : Fin 4, b.topBits.testBit p.val = (refs.get p).isSome) ∧
      ∃ w, b.words = w :: refs.toList.filterMap id ∧ w.toNat % 16 = r.val ∧ w.toNat / 16 = n % 8) ∧
    (b = .lapsed r reason steps refs → b.kind = 9 ∧ (∀ p : Fin 4, b.topBits.testBit p.val = (refs.get p).isSome) ∧
      ∃ w, b.words = w :: refs.toList.filterMap id ∧ w.toNat % 16 = r.val ∧ w.toNat / 16 % 16 = reason.code ∧
        (∀ p : Fin 4, w.getLsbD (8 + p.val) = steps.get p) ∧ w.toNat / 4096 = 0)) ∧
  (∀ (line : LineId) (p : Fin 4) (res : AckResult) (tag : Word) (side : Half) (n : Nat) (b : Body),
    (b = .escalate line p → b.kind = 10 ∧ b.topBits = 0 ∧
      ∃ w, b.words = [w] ∧ w.toNat % 32 = line.val ∧ w.toNat / 32 = p.val) ∧
    (b = .ack line res tag side → b.kind = 11 ∧ b.topBits = side.code ∧
      ∃ w, b.words = [w, tag] ∧ w.toNat % 32 = line.val ∧ w.toNat / 32 = res.code) ∧
    (b = .silence n side → b.kind = 12 ∧ b.topBits = side.code ∧ b.words = [BitVec.ofNat 16 (n % 64)])) ∧
  (∀ (kind : TimeKind) (old new : Quality) (step : BitVec 48) (first : Word) (count : BitVec 32) (b : Body),
    (b = .time kind old new step → b.kind = 13 ∧ b.topBits = 0 ∧
      ∃ w, b.words = [w, step.extractLsb' 32 16, step.extractLsb' 16 16, step.extractLsb' 0 16] ∧
        w.toNat % 16 = kind.code ∧ w.toNat / 16 % 4 = old.code ∧ w.toNat / 64 = new.code) ∧
    (b = .loss first count → b.kind = 14 ∧ b.topBits = 0 ∧
      b.words = [first, count.extractLsb' 16 16, count.extractLsb' 0 16])) ∧
  (∀ (e q a c : LineMask) (note : Word) (side : Half) (cause : RestartCause) (b : Body),
    (b = .snapshot e q a c → b.kind = 15 ∧ b.topBits = 1 ∧
      b.words = [e.extractLsb' 0 16, e.extractLsb' 16 16, q.extractLsb' 0 16, q.extractLsb' 16 16,
        a.extractLsb' 0 16, a.extractLsb' 16 16, c.extractLsb' 0 16, c.extractLsb' 16 16]) ∧
    (b = .mark note side → b.kind = 16 ∧ b.topBits = side.code ∧ b.words = [note]) ∧
    (b = .restart cause → b.kind = 17 ∧ b.topBits = (if cause = .command then 1 else 0) ∧
      b.words = [BitVec.ofNat 16 cause.code])) ∧
  ([Level.low, .high].map Level.code = [0, 1] ∧ [Direction.depart, .giveBack].map Direction.code = [0, 1] ∧
    [Half.control, .archive].map Half.code = [1, 2] ∧
    [LapseReason.window, .disabled, .timeStep].map LapseReason.code = [0, 1, 2] ∧
    [AckResult.acked, .removed].map AckResult.code = [0, 2] ∧
    [TimeKind.set, .step, .quality].map TimeKind.code = [0, 1, 2] ∧
    [RestartCause.reset, .command].map RestartCause.code = [0, 1] ∧
    [Quality.free, .acquiring, .locked, .holdover].map Quality.code = [0, 1, 2, 3])

/-! ## Commands and words of the window (Chapter 10) -/

/-- A command refused before its block acts changes nothing but the slot: a control-half command from the archive half is NOT
PERMITTED, whatever its operands (R187, step 2), and an operand outside its range is a BAD OPERAND (R187, step 3).
A write to CMD of a value that is no command code, compared as a whole word, leaves BAD COMMAND with the value's low eight bits in
RESULT, and nothing else but CMD (R186, R187). -/
def Obligations.RefusedCommandsChangeOnlyTheSlot : Prop :=
  (∀ s : State, s.inReset = false →
     (∀ p ∈ ([(.armLine .archive, 0x01, 0x0106), (.disarmLine .archive, 0x02, 0x0206), (.inject .archive, 0x03, 0x0306)] ++
         [(.endInject .archive, 0x04, 0x0406), (.groupReset .archive, 0x08, 0x0806), (.ruleEnable .archive, 0x0C, 0x0C06)] ++
         [(.ruleDisable .archive, 0x0D, 0x0D06), (.setTime .archive, 0x10, 0x1006), (.snapshot .archive, 0x11, 0x1106)] ++
         [(.storeClear .archive, 0x12, 0x1206), (.pulse .archive, 0x14, 0x1406), (.restart .archive, 0x1F, 0x1F06)] :
         List (Instr × Word × Word)),
       exec p.1 s = .next (s.setSlot .archive (s.slots.archive.answered p.2.1 p.2.2))) ∧
     (32 ≤ s.slots.control.arg0.toNat →
       ∀ p ∈ ([(.armLine .control, 0x01, 0x0104), (.disarmLine .control, 0x02, 0x0204), (.inject .control, 0x03, 0x0304)] ++
           [(.endInject .control, 0x04, 0x0404), (.ackLine .control, 0x20, 0x2004)] : List (Instr × Word × Word)),
         exec p.1 s = .next (s.setSlot .control (s.slots.control.answered p.2.1 p.2.2))) ∧
     (32 ≤ s.slots.archive.arg0.toNat →
       exec (.ackLine .archive) s = .next (s.setSlot .archive (s.slots.archive.answered 0x20 0x2004))) ∧
     (2 ≤ s.slots.control.arg1.toNat →
       exec (.inject .control) s = .next (s.setSlot .control (s.slots.control.answered 0x03 0x0304))) ∧
     (16 ≤ s.slots.control.arg0.toNat →
       exec (.ruleEnable .control) s = .next (s.setSlot .control (s.slots.control.answered 0x0C 0x0C04)) ∧
       exec (.ruleDisable .control) s = .next (s.setSlot .control (s.slots.control.answered 0x0D 0x0D04))) ∧
     (8 ≤ s.slots.control.arg0.toNat →
       exec (.groupReset .control) s = .next (s.setSlot .control (s.slots.control.answered 0x08 0x0804)) ∧
       exec (.pulse .control) s = .next (s.setSlot .control (s.slots.control.answered 0x14 0x1404)))) ∧
  (∀ (h : Half) (v : Word) (s : State), s.inReset = false → v ∉ commandCodes →
     exec (.badCommand h v) s = .next (s.setSlot h
       ((s.slots.get h).answered v (BitVec.ofNat 16 (3 + 256 * (v.toNat % 256))))))

/-- The words written directly: STORE CONTROL takes the policy alone (R79), OUTPUT DATA its eight positions (R154), the ARG words any
value in their own half (R186), SYNC TOLERANCE and SYNC STEP LIMIT any value but 0 (R26), TIME SET HIGH any value (R32), ALARM
SUMMARY the ACK recording control (R140). A write to a read-only, mirrored or unassigned word is ignored (R182, R184).
A read of the window returns each word's item as it stands, in the bits of Tables 38 and 39, either half its own slot, port, latch,
channel and causes, and 0000h while RESETn is asserted or at an unassigned word (R182 to R184). -/
def Obligations.DirectWritesReachTheirWord : Prop :=
  (∀ (v : Word) (s : State), s.inReset = false →
    exec (.storeControlWrite v) s = .next
      { s with store := { s.store with policy := if v.getLsbD 0 then .wrap else .hold } } ∧
    exec (.outputDataWrite v) s = .next { s with outputs := { s.outputs with data := v.extractLsb' 0 8 } } ∧
    exec (.registerWrite 2 v) s = .next (s.setSlot .control { s.slots.control with arg0 := v }) ∧
    exec (.registerWrite 3 v) s = .next (s.setSlot .control { s.slots.control with arg1 := v }) ∧
    exec (.registerWrite 34 v) s = .next (s.setSlot .archive { s.slots.archive with arg0 := v }) ∧
    exec (.registerWrite 35 v) s = .next (s.setSlot .archive { s.slots.archive with arg1 := v }) ∧
    exec (.registerWrite 15 v) s = .next
      (if v = 0 then s else { s with time := { s.time with tolerance := v } }) ∧
    exec (.registerWrite 16 v) s = .next
      (if v = 0 then s else { s with time := { s.time with stepLimit := v } }) ∧
    exec (.registerWrite 17 v) s = .next { s with time := { s.time with setHigh := v } } ∧
    exec (.registerWrite 18 v) s = .next { s with alarms := { s.alarms with ackRecording := v.getLsbD 15 } } ∧
    (∀ w : WordId, (Instr.registerWrite w v).wf = true →
      w ∉ ([2, 3, 34, 35, 15, 16, 17, 18] : List WordId) → exec (.registerWrite w v) s = .next s)) ∧
  (∀ (s : State) (w : WordId), s.inReset = true → s.busRead w = 0) ∧
  (∀ (s : State) (h : Half) (w : Nat → Word) (c : Channel), s.inReset = false → c = s.channels.get h →
    (w = fun n => s.busRead (BitVec.ofNat 6 (n + (if h = .archive then 32 else 0)))) →
    w 0 = 0x4321 ∧
    ((w 1).toNat % 32 = 24 - (s.rules.toList.map fun r => r.contexts.length).sum ∧ (w 1).getLsbD 5 = s.exhausted ∧
      (w 1).toNat / 64 % 4 = 0 ∧ (w 1).toNat / 256 = s.alarms.entries.length % 64) ∧
    w 2 = (s.slots.get h).arg0 ∧ w 3 = (s.slots.get h).arg1 ∧ w 4 = (s.slots.get h).cmd ∧ w 5 = (s.slots.get h).result ∧
    ((s.ports.get h).valid = true → (w 6).toNat % 16 = (s.ports.get h).offset ∧
      (w 6).toNat / 16 % 256 = (s.ports.get h).index ∧ (w 6).toNat / 4096 = (s.ports.get h).select) ∧
    w 7 = s.tableWord (s.ports.get h) ∧
    (h = .archive → w 8 = 0) ∧ (h = .control → s.tableStatus = none → w 8 = 0) ∧
    (∀ k, h = .control → s.tableStatus = some k → w 8 = BitVec.ofNat 16 (1 + 16 * k.code)) ∧
    ((w 9).getLsbD 0 = decide (s.store.policy = .wrap) ∧ (w 9).getLsbD 1 = s.store.loss.isSome ∧
      (w 9).getLsbD 2 = decide (s.store.records = []) ∧ (w 9).toNat / 8 = 0) ∧
    (w 10).toNat = 4096 - (s.store.records.map Record.len).sum ∧
    w 11 = s.time.counter.extractLsb' 32 16 ∧ w 12 = (s.time.latches.get h).middle ∧ w 13 = (s.time.latches.get h).low ∧
    ((w 14).getLsbD 0 = s.time.syncEnable ∧ (w 14).toNat / 2 % 8 = 0 ∧
      (w 14).toNat / 16 = (s.time.latches.get h).quality.code) ∧
    w 15 = s.time.tolerance ∧ w 16 = s.time.stepLimit ∧ w 17 = s.time.setHigh ∧
    (∀ k : Fin 4, (w 18).toNat / 4 ^ k.val % 4 = (s.alarms.summaries.get k).lamp.code ∧
      (w 18).getLsbD (8 + k.val) = (s.alarms.summaries.get k).horn) ∧
    (w 18).toNat / 4096 % 8 = 0 ∧ (w 18).getLsbD 15 = s.alarms.ackRecording ∧
    (∀ q : OutputId, (w 19).getLsbD q.val = s.outputs.data.getLsbD q.val ∧ (w 20).getLsbD q.val = s.outputs.computed q) ∧
    (w 19).toNat < 256 ∧ (w 20).toNat < 256 ∧
    ((c.enabled = false ∨ s.cursorRecord h = none) → w 21 = 0) ∧
    (∀ r, c.enabled = true → s.cursorRecord h = some r → w 21 = r.words.getD c.offset 0) ∧
    ((w 22).getLsbD 0 = c.enabled ∧ (w 22).getLsbD 1 = decide (c.unread = 0) ∧ (w 22).getLsbD 2 = c.holdoffTimer.isSome ∧
      (w 22).getLsbD 3 = c.torn ∧ (w 22).getLsbD 4 = c.emptyRead ∧ (w 22).toNat / 32 % 8 = 0 ∧
      (w 22).toNat / 256 = c.offset % 16) ∧
    w 23 = ((s.cursorRecord h).map Record.number).getD 0 ∧ w 24 = BitVec.ofNat 16 c.unread ∧ w 25 = c.missed ∧
    w 26 = c.threshold ∧ w 27 = c.holdoff ∧
    (∀ i : Fin 4, (w 28).getLsbD i.val = (s.irq.channel.get h).flags.get i ∧
      (w 28).getLsbD (8 + i.val) = (s.irq.channel.get h).enables.get i ∧
      (w 28).getLsbD (4 + i.val) = false ∧ (w 28).getLsbD (12 + i.val) = false) ∧
    (∀ i : Fin 6, (w 29).getLsbD i.val = s.irq.system.get i ∧
      (w 30).toNat / 4 ^ i.val % 4 = (s.irq.routes.get i).code) ∧
    (w 29).toNat / 64 % 512 = 0 ∧ (w 29).getLsbD 15 = s.irqAsserted h ∧ (w 30).toNat / 4096 = 0 ∧ w 31 = 0) ∧
  ([ChannelCause.ready, .loss, .missed, .torn].map ChannelCause.idx = [0, 1, 2, 3] ∧
    [SystemCause.alarmNew, .escalated, .groupTrip, .chatter, .contextsExhausted, .timeQuality].map SystemCause.idx =
      [0, 1, 2, 3, 4, 5] ∧
    [Lamp.off, .steady, .slow, .fast].map Lamp.code = [0, 1, 2, 3] ∧
    [Route.nowhere, .a, .b, .both].map Route.code = [0, 1, 2, 3])

/-- RESTART from the control half gives DONE. Every cause flag is cleared first, the store is emptied, the groups, contexts, alarm
entries and pulses are discarded, every armed line settles anew, and the RESTART record with the Next Number is the first in the
store (R23, R58, R83, R106, R128, R150, R169, R180, R192). The armed lines with check time 0 then leave SETTLING at the level of
their inputs; their ARMED records follow in ascending line number, and of these lines those found offnormal with an ack mode
other than NONE have new alarm entries in ALERT, with ALARM NEW (R192, step 5). Where there is none, the RESTART record is the
only one, the list is empty and no system cause is set. LOSS, MISSED and TORN stay clear; READY is set on an enabled channel whose
threshold the count has reached, and the holdoff starts (R106, R180). An enabled channel's cursor is on the RESTART record with
all of the records unread; the missed count and EMPTY-READ stand (R106). The tables, the time, the ports, the table status, the
archive slot, the routes and the enables are kept. -/
def Obligations.RestartReturnsToAKnownBeginning : Prop :=
  ∀ (s : State) (atOnce : LineId → Bool), s.inReset = false →
    (∀ l, atOnce l = true ↔ (s.lines.get l).cond ≠ .disarmed ∧
      (s.profiles.get (s.lineTable.get l).profile).checkTime = 0) →
    ∃ u : State, exec (.restart .control) s = .next (u.setSlot .control (s.slots.control.answered 0x1F 0x1F01)) ∧
      u.lineTable = s.lineTable ∧ u.profiles = s.profiles ∧ u.time = s.time ∧ u.slots = s.slots ∧ u.ports = s.ports ∧
      u.tableStatus = s.tableStatus ∧ u.alarms.escalation = s.alarms.escalation ∧
      u.alarms.ackRecording = s.alarms.ackRecording ∧ u.outputs.data = s.outputs.data ∧
      u.outputs.flash = s.outputs.flash ∧ u.store.policy = s.store.policy ∧ u.irq.routes = s.irq.routes ∧
      (∀ h, (u.irq.channel.get h).enables = (s.irq.channel.get h).enables) ∧
      (∀ (h : Half) (c : Channel), c = s.channels.get h →
        u.channels.get h = { c with
          unread := if c.enabled then u.store.records.length else 0
          offset := 0
          torn := c.torn || (c.enabled && decide (0 < c.offset))
          holdoffTimer :=
            if c.enabled = true ∧ c.holdoff ≠ 0 then some (s.time.elapsed + 1000 * c.holdoff.toNat) else none } ∧
        u.channelCauseSet h .ready = (c.enabled &&
          decide (0 < c.threshold.toNat ∧ c.threshold.toNat ≤ u.store.records.length)) ∧
        u.channelCauseSet h .loss = false ∧ u.channelCauseSet h .missed = false ∧ u.channelCauseSet h .torn = false) ∧
      (∃ more, u.store.records = ⟨s.store.next, s.now, false, .restart .command⟩ :: more ∧
        more.map (fun r => (r.stamp, r.test, r.body)) =
          ((List.finRange 32).filter atOnce).map fun l => (s.now, false, .armed l (s.lines.get l).physical)) ∧
      u.store.loss = none ∧ u.exhausted = false ∧ (∀ c, c ≠ .alarmNew → u.causeSet c = false) ∧
      u.groups = s.groups.map (fun g => FirstOutGroup.cleared g.window) ∧
      u.rules = s.rules.map (fun r => { r with contexts := [] }) ∧
      u.outputs.lines = s.outputs.lines.map (fun o =>
        if o.mode = .pulse then { o with phase := .idle, timer := none, queued := 0 } else o) ∧
      (∀ l, (s.lines.get l).cond = .disarmed → u.lines.get l = s.lines.get l) ∧
      (∀ l, (s.lines.get l).cond ≠ .disarmed → atOnce l = false →
        u.lines.get l = { LineState.reset (s.lines.get l).physical with
          cond := .settling
          qualTimer := some (s.time.elapsed +
            100 * (s.profiles.get (s.lineTable.get l).profile).checkTime.toNat) }) ∧
      (∀ l, atOnce l = true →
        u.lines.get l = { LineState.reset (s.lines.get l).physical with
          cond := if (s.lines.get l).physical = (s.lineTable.get l).normal then .normal else .offnormal
          qualified := some (s.lines.get l).physical }) ∧
      (∀ l, (∃ e ∈ u.alarms.entries, e.line = l) ↔ atOnce l = true ∧ (s.lineTable.get l).ackMode ≠ .off ∧
        (s.lines.get l).physical ≠ (s.lineTable.get l).normal) ∧
      (∀ e ∈ u.alarms.entries, e.phase = .alert ∧ e.first = s.now ∧ u.causeSet .alarmNew = true) ∧
      ((∀ l, atOnce l = false) →
        u.store.records = [⟨s.store.next, s.now, false, .restart .command⟩] ∧
        u.store.next = s.store.next + 1 ∧ u.alarms.entries = [] ∧ ∀ c, u.causeSet c = false)
end

