-- ==== Sys2Proof/Laws/State.lean ====
section
/-! SUPPORT. Laws/State: what each update of the state leaves in each field, true by rfl, so that no proof unfolds a record update. -/
namespace Sys2Proof.Machine

@[simp] theorem setLine_lines (s : State) (l : LineId) (x : LineState) : (s.setLine l x).lines = put s.lines l x := rfl
@[simp] theorem setLine_lineTable (s : State) (l : LineId) (x : LineState) : (s.setLine l x).lineTable = s.lineTable := rfl
@[simp] theorem setLine_profiles (s : State) (l : LineId) (x : LineState) : (s.setLine l x).profiles = s.profiles := rfl
@[simp] theorem setLine_time (s : State) (l : LineId) (x : LineState) : (s.setLine l x).time = s.time := rfl
@[simp] theorem setLine_groups (s : State) (l : LineId) (x : LineState) : (s.setLine l x).groups = s.groups := rfl
@[simp] theorem setLine_rules (s : State) (l : LineId) (x : LineState) : (s.setLine l x).rules = s.rules := rfl
@[simp] theorem setLine_exhausted (s : State) (l : LineId) (x : LineState) : (s.setLine l x).exhausted = s.exhausted := rfl
@[simp] theorem setLine_alarms (s : State) (l : LineId) (x : LineState) : (s.setLine l x).alarms = s.alarms := rfl
@[simp] theorem setLine_store (s : State) (l : LineId) (x : LineState) : (s.setLine l x).store = s.store := rfl
@[simp] theorem setLine_channels (s : State) (l : LineId) (x : LineState) : (s.setLine l x).channels = s.channels := rfl
@[simp] theorem setLine_outputs (s : State) (l : LineId) (x : LineState) : (s.setLine l x).outputs = s.outputs := rfl
@[simp] theorem setLine_irq (s : State) (l : LineId) (x : LineState) : (s.setLine l x).irq = s.irq := rfl
@[simp] theorem setLine_slots (s : State) (l : LineId) (x : LineState) : (s.setLine l x).slots = s.slots := rfl
@[simp] theorem setLine_ports (s : State) (l : LineId) (x : LineState) : (s.setLine l x).ports = s.ports := rfl
@[simp] theorem setLine_tableStatus (s : State) (l : LineId) (x : LineState) : (s.setLine l x).tableStatus = s.tableStatus := rfl
@[simp] theorem setLine_inReset (s : State) (l : LineId) (x : LineState) : (s.setLine l x).inReset = s.inReset := rfl
@[simp] theorem setLine_clockRunning (s : State) (l : LineId) (x : LineState) : (s.setLine l x).clockRunning = s.clockRunning := rfl
@[simp] theorem setLine_lastRead (s : State) (l : LineId) (x : LineState) : (s.setLine l x).lastRead = s.lastRead := rfl
@[simp] theorem setLine_freeIndex (s : State) (l : LineId) (x : LineState) : (s.setLine l x).freeIndex = s.freeIndex := rfl
@[simp] theorem setLine_pending (s : State) (l : LineId) (x : LineState) : (s.setLine l x).pending = s.pending := rfl

@[simp] theorem setGroup_lines (s : State) (g : GroupId) (x : FirstOutGroup) : (s.setGroup g x).lines = s.lines := rfl
@[simp] theorem setGroup_lineTable (s : State) (g : GroupId) (x : FirstOutGroup) : (s.setGroup g x).lineTable = s.lineTable := rfl
@[simp] theorem setGroup_profiles (s : State) (g : GroupId) (x : FirstOutGroup) : (s.setGroup g x).profiles = s.profiles := rfl
@[simp] theorem setGroup_time (s : State) (g : GroupId) (x : FirstOutGroup) : (s.setGroup g x).time = s.time := rfl
@[simp] theorem setGroup_groups (s : State) (g : GroupId) (x : FirstOutGroup) : (s.setGroup g x).groups = put s.groups g x := rfl
@[simp] theorem setGroup_rules (s : State) (g : GroupId) (x : FirstOutGroup) : (s.setGroup g x).rules = s.rules := rfl
@[simp] theorem setGroup_exhausted (s : State) (g : GroupId) (x : FirstOutGroup) : (s.setGroup g x).exhausted = s.exhausted := rfl
@[simp] theorem setGroup_alarms (s : State) (g : GroupId) (x : FirstOutGroup) : (s.setGroup g x).alarms = s.alarms := rfl
@[simp] theorem setGroup_store (s : State) (g : GroupId) (x : FirstOutGroup) : (s.setGroup g x).store = s.store := rfl
@[simp] theorem setGroup_channels (s : State) (g : GroupId) (x : FirstOutGroup) : (s.setGroup g x).channels = s.channels := rfl
@[simp] theorem setGroup_outputs (s : State) (g : GroupId) (x : FirstOutGroup) : (s.setGroup g x).outputs = s.outputs := rfl
@[simp] theorem setGroup_irq (s : State) (g : GroupId) (x : FirstOutGroup) : (s.setGroup g x).irq = s.irq := rfl
@[simp] theorem setGroup_slots (s : State) (g : GroupId) (x : FirstOutGroup) : (s.setGroup g x).slots = s.slots := rfl
@[simp] theorem setGroup_ports (s : State) (g : GroupId) (x : FirstOutGroup) : (s.setGroup g x).ports = s.ports := rfl
@[simp] theorem setGroup_tableStatus (s : State) (g : GroupId) (x : FirstOutGroup) : (s.setGroup g x).tableStatus = s.tableStatus := rfl
@[simp] theorem setGroup_inReset (s : State) (g : GroupId) (x : FirstOutGroup) : (s.setGroup g x).inReset = s.inReset := rfl
@[simp] theorem setGroup_clockRunning (s : State) (g : GroupId) (x : FirstOutGroup) : (s.setGroup g x).clockRunning = s.clockRunning := rfl
@[simp] theorem setGroup_lastRead (s : State) (g : GroupId) (x : FirstOutGroup) : (s.setGroup g x).lastRead = s.lastRead := rfl
@[simp] theorem setGroup_freeIndex (s : State) (g : GroupId) (x : FirstOutGroup) : (s.setGroup g x).freeIndex = s.freeIndex := rfl
@[simp] theorem setGroup_pending (s : State) (g : GroupId) (x : FirstOutGroup) : (s.setGroup g x).pending = s.pending := rfl

@[simp] theorem setRule_lines (s : State) (r : RuleId) (x : CorrRule) : (s.setRule r x).lines = s.lines := rfl
@[simp] theorem setRule_lineTable (s : State) (r : RuleId) (x : CorrRule) : (s.setRule r x).lineTable = s.lineTable := rfl
@[simp] theorem setRule_profiles (s : State) (r : RuleId) (x : CorrRule) : (s.setRule r x).profiles = s.profiles := rfl
@[simp] theorem setRule_time (s : State) (r : RuleId) (x : CorrRule) : (s.setRule r x).time = s.time := rfl
@[simp] theorem setRule_groups (s : State) (r : RuleId) (x : CorrRule) : (s.setRule r x).groups = s.groups := rfl
@[simp] theorem setRule_rules (s : State) (r : RuleId) (x : CorrRule) : (s.setRule r x).rules = put s.rules r x := rfl
@[simp] theorem setRule_exhausted (s : State) (r : RuleId) (x : CorrRule) : (s.setRule r x).exhausted = s.exhausted := rfl
@[simp] theorem setRule_alarms (s : State) (r : RuleId) (x : CorrRule) : (s.setRule r x).alarms = s.alarms := rfl
@[simp] theorem setRule_store (s : State) (r : RuleId) (x : CorrRule) : (s.setRule r x).store = s.store := rfl
@[simp] theorem setRule_channels (s : State) (r : RuleId) (x : CorrRule) : (s.setRule r x).channels = s.channels := rfl
@[simp] theorem setRule_outputs (s : State) (r : RuleId) (x : CorrRule) : (s.setRule r x).outputs = s.outputs := rfl
@[simp] theorem setRule_irq (s : State) (r : RuleId) (x : CorrRule) : (s.setRule r x).irq = s.irq := rfl
@[simp] theorem setRule_slots (s : State) (r : RuleId) (x : CorrRule) : (s.setRule r x).slots = s.slots := rfl
@[simp] theorem setRule_ports (s : State) (r : RuleId) (x : CorrRule) : (s.setRule r x).ports = s.ports := rfl
@[simp] theorem setRule_tableStatus (s : State) (r : RuleId) (x : CorrRule) : (s.setRule r x).tableStatus = s.tableStatus := rfl
@[simp] theorem setRule_inReset (s : State) (r : RuleId) (x : CorrRule) : (s.setRule r x).inReset = s.inReset := rfl
@[simp] theorem setRule_clockRunning (s : State) (r : RuleId) (x : CorrRule) : (s.setRule r x).clockRunning = s.clockRunning := rfl
@[simp] theorem setRule_lastRead (s : State) (r : RuleId) (x : CorrRule) : (s.setRule r x).lastRead = s.lastRead := rfl
@[simp] theorem setRule_freeIndex (s : State) (r : RuleId) (x : CorrRule) : (s.setRule r x).freeIndex = s.freeIndex := rfl
@[simp] theorem setRule_pending (s : State) (r : RuleId) (x : CorrRule) : (s.setRule r x).pending = s.pending := rfl

@[simp] theorem setOutput_lines (s : State) (q : OutputId) (x : OutputLine) : (s.setOutput q x).lines = s.lines := rfl
@[simp] theorem setOutput_lineTable (s : State) (q : OutputId) (x : OutputLine) : (s.setOutput q x).lineTable = s.lineTable := rfl
@[simp] theorem setOutput_profiles (s : State) (q : OutputId) (x : OutputLine) : (s.setOutput q x).profiles = s.profiles := rfl
@[simp] theorem setOutput_time (s : State) (q : OutputId) (x : OutputLine) : (s.setOutput q x).time = s.time := rfl
@[simp] theorem setOutput_groups (s : State) (q : OutputId) (x : OutputLine) : (s.setOutput q x).groups = s.groups := rfl
@[simp] theorem setOutput_rules (s : State) (q : OutputId) (x : OutputLine) : (s.setOutput q x).rules = s.rules := rfl
@[simp] theorem setOutput_exhausted (s : State) (q : OutputId) (x : OutputLine) : (s.setOutput q x).exhausted = s.exhausted := rfl
@[simp] theorem setOutput_alarms (s : State) (q : OutputId) (x : OutputLine) : (s.setOutput q x).alarms = s.alarms := rfl
@[simp] theorem setOutput_store (s : State) (q : OutputId) (x : OutputLine) : (s.setOutput q x).store = s.store := rfl
@[simp] theorem setOutput_channels (s : State) (q : OutputId) (x : OutputLine) : (s.setOutput q x).channels = s.channels := rfl
@[simp] theorem setOutput_outputs (s : State) (q : OutputId) (x : OutputLine) : (s.setOutput q x).outputs = { s.outputs with lines := put s.outputs.lines q x } := rfl
@[simp] theorem setOutput_irq (s : State) (q : OutputId) (x : OutputLine) : (s.setOutput q x).irq = s.irq := rfl
@[simp] theorem setOutput_slots (s : State) (q : OutputId) (x : OutputLine) : (s.setOutput q x).slots = s.slots := rfl
@[simp] theorem setOutput_ports (s : State) (q : OutputId) (x : OutputLine) : (s.setOutput q x).ports = s.ports := rfl
@[simp] theorem setOutput_tableStatus (s : State) (q : OutputId) (x : OutputLine) : (s.setOutput q x).tableStatus = s.tableStatus := rfl
@[simp] theorem setOutput_inReset (s : State) (q : OutputId) (x : OutputLine) : (s.setOutput q x).inReset = s.inReset := rfl
@[simp] theorem setOutput_clockRunning (s : State) (q : OutputId) (x : OutputLine) : (s.setOutput q x).clockRunning = s.clockRunning := rfl
@[simp] theorem setOutput_lastRead (s : State) (q : OutputId) (x : OutputLine) : (s.setOutput q x).lastRead = s.lastRead := rfl
@[simp] theorem setOutput_freeIndex (s : State) (q : OutputId) (x : OutputLine) : (s.setOutput q x).freeIndex = s.freeIndex := rfl
@[simp] theorem setOutput_pending (s : State) (q : OutputId) (x : OutputLine) : (s.setOutput q x).pending = s.pending := rfl

@[simp] theorem setChannel_lines (s : State) (h : Half) (x : Channel) : (s.setChannel h x).lines = s.lines := rfl
@[simp] theorem setChannel_lineTable (s : State) (h : Half) (x : Channel) : (s.setChannel h x).lineTable = s.lineTable := rfl
@[simp] theorem setChannel_profiles (s : State) (h : Half) (x : Channel) : (s.setChannel h x).profiles = s.profiles := rfl
@[simp] theorem setChannel_time (s : State) (h : Half) (x : Channel) : (s.setChannel h x).time = s.time := rfl
@[simp] theorem setChannel_groups (s : State) (h : Half) (x : Channel) : (s.setChannel h x).groups = s.groups := rfl
@[simp] theorem setChannel_rules (s : State) (h : Half) (x : Channel) : (s.setChannel h x).rules = s.rules := rfl
@[simp] theorem setChannel_exhausted (s : State) (h : Half) (x : Channel) : (s.setChannel h x).exhausted = s.exhausted := rfl
@[simp] theorem setChannel_alarms (s : State) (h : Half) (x : Channel) : (s.setChannel h x).alarms = s.alarms := rfl
@[simp] theorem setChannel_store (s : State) (h : Half) (x : Channel) : (s.setChannel h x).store = s.store := rfl
@[simp] theorem setChannel_channels (s : State) (h : Half) (x : Channel) : (s.setChannel h x).channels = s.channels.set h x := rfl
@[simp] theorem setChannel_outputs (s : State) (h : Half) (x : Channel) : (s.setChannel h x).outputs = s.outputs := rfl
@[simp] theorem setChannel_irq (s : State) (h : Half) (x : Channel) : (s.setChannel h x).irq = s.irq := rfl
@[simp] theorem setChannel_slots (s : State) (h : Half) (x : Channel) : (s.setChannel h x).slots = s.slots := rfl
@[simp] theorem setChannel_ports (s : State) (h : Half) (x : Channel) : (s.setChannel h x).ports = s.ports := rfl
@[simp] theorem setChannel_tableStatus (s : State) (h : Half) (x : Channel) : (s.setChannel h x).tableStatus = s.tableStatus := rfl
@[simp] theorem setChannel_inReset (s : State) (h : Half) (x : Channel) : (s.setChannel h x).inReset = s.inReset := rfl
@[simp] theorem setChannel_clockRunning (s : State) (h : Half) (x : Channel) : (s.setChannel h x).clockRunning = s.clockRunning := rfl
@[simp] theorem setChannel_lastRead (s : State) (h : Half) (x : Channel) : (s.setChannel h x).lastRead = s.lastRead := rfl
@[simp] theorem setChannel_freeIndex (s : State) (h : Half) (x : Channel) : (s.setChannel h x).freeIndex = s.freeIndex := rfl
@[simp] theorem setChannel_pending (s : State) (h : Half) (x : Channel) : (s.setChannel h x).pending = s.pending := rfl

@[simp] theorem setSlot_lines (s : State) (h : Half) (x : Slot) : (s.setSlot h x).lines = s.lines := rfl
@[simp] theorem setSlot_lineTable (s : State) (h : Half) (x : Slot) : (s.setSlot h x).lineTable = s.lineTable := rfl
@[simp] theorem setSlot_profiles (s : State) (h : Half) (x : Slot) : (s.setSlot h x).profiles = s.profiles := rfl
@[simp] theorem setSlot_time (s : State) (h : Half) (x : Slot) : (s.setSlot h x).time = s.time := rfl
@[simp] theorem setSlot_groups (s : State) (h : Half) (x : Slot) : (s.setSlot h x).groups = s.groups := rfl
@[simp] theorem setSlot_rules (s : State) (h : Half) (x : Slot) : (s.setSlot h x).rules = s.rules := rfl
@[simp] theorem setSlot_exhausted (s : State) (h : Half) (x : Slot) : (s.setSlot h x).exhausted = s.exhausted := rfl
@[simp] theorem setSlot_alarms (s : State) (h : Half) (x : Slot) : (s.setSlot h x).alarms = s.alarms := rfl
@[simp] theorem setSlot_store (s : State) (h : Half) (x : Slot) : (s.setSlot h x).store = s.store := rfl
@[simp] theorem setSlot_channels (s : State) (h : Half) (x : Slot) : (s.setSlot h x).channels = s.channels := rfl
@[simp] theorem setSlot_outputs (s : State) (h : Half) (x : Slot) : (s.setSlot h x).outputs = s.outputs := rfl
@[simp] theorem setSlot_irq (s : State) (h : Half) (x : Slot) : (s.setSlot h x).irq = s.irq := rfl
@[simp] theorem setSlot_slots (s : State) (h : Half) (x : Slot) : (s.setSlot h x).slots = s.slots.set h x := rfl
@[simp] theorem setSlot_ports (s : State) (h : Half) (x : Slot) : (s.setSlot h x).ports = s.ports := rfl
@[simp] theorem setSlot_tableStatus (s : State) (h : Half) (x : Slot) : (s.setSlot h x).tableStatus = s.tableStatus := rfl
@[simp] theorem setSlot_inReset (s : State) (h : Half) (x : Slot) : (s.setSlot h x).inReset = s.inReset := rfl
@[simp] theorem setSlot_clockRunning (s : State) (h : Half) (x : Slot) : (s.setSlot h x).clockRunning = s.clockRunning := rfl
@[simp] theorem setSlot_lastRead (s : State) (h : Half) (x : Slot) : (s.setSlot h x).lastRead = s.lastRead := rfl
@[simp] theorem setSlot_freeIndex (s : State) (h : Half) (x : Slot) : (s.setSlot h x).freeIndex = s.freeIndex := rfl
@[simp] theorem setSlot_pending (s : State) (h : Half) (x : Slot) : (s.setSlot h x).pending = s.pending := rfl

@[simp] theorem setEntries_lines (s : State) (es : List AlarmEntry) : (s.setEntries es).lines = s.lines := rfl
@[simp] theorem setEntries_lineTable (s : State) (es : List AlarmEntry) : (s.setEntries es).lineTable = s.lineTable := rfl
@[simp] theorem setEntries_profiles (s : State) (es : List AlarmEntry) : (s.setEntries es).profiles = s.profiles := rfl
@[simp] theorem setEntries_time (s : State) (es : List AlarmEntry) : (s.setEntries es).time = s.time := rfl
@[simp] theorem setEntries_groups (s : State) (es : List AlarmEntry) : (s.setEntries es).groups = s.groups := rfl
@[simp] theorem setEntries_rules (s : State) (es : List AlarmEntry) : (s.setEntries es).rules = s.rules := rfl
@[simp] theorem setEntries_exhausted (s : State) (es : List AlarmEntry) : (s.setEntries es).exhausted = s.exhausted := rfl
@[simp] theorem setEntries_alarms (s : State) (es : List AlarmEntry) : (s.setEntries es).alarms = { s.alarms with entries := es } := rfl
@[simp] theorem setEntries_store (s : State) (es : List AlarmEntry) : (s.setEntries es).store = s.store := rfl
@[simp] theorem setEntries_channels (s : State) (es : List AlarmEntry) : (s.setEntries es).channels = s.channels := rfl
@[simp] theorem setEntries_outputs (s : State) (es : List AlarmEntry) : (s.setEntries es).outputs = s.outputs := rfl
@[simp] theorem setEntries_irq (s : State) (es : List AlarmEntry) : (s.setEntries es).irq = s.irq := rfl
@[simp] theorem setEntries_slots (s : State) (es : List AlarmEntry) : (s.setEntries es).slots = s.slots := rfl
@[simp] theorem setEntries_ports (s : State) (es : List AlarmEntry) : (s.setEntries es).ports = s.ports := rfl
@[simp] theorem setEntries_tableStatus (s : State) (es : List AlarmEntry) : (s.setEntries es).tableStatus = s.tableStatus := rfl
@[simp] theorem setEntries_inReset (s : State) (es : List AlarmEntry) : (s.setEntries es).inReset = s.inReset := rfl
@[simp] theorem setEntries_clockRunning (s : State) (es : List AlarmEntry) : (s.setEntries es).clockRunning = s.clockRunning := rfl
@[simp] theorem setEntries_lastRead (s : State) (es : List AlarmEntry) : (s.setEntries es).lastRead = s.lastRead := rfl
@[simp] theorem setEntries_freeIndex (s : State) (es : List AlarmEntry) : (s.setEntries es).freeIndex = s.freeIndex := rfl
@[simp] theorem setEntries_pending (s : State) (es : List AlarmEntry) : (s.setEntries es).pending = s.pending := rfl

@[simp] theorem raise_lines (s : State) (c : SystemCause) : (raise c s).lines = s.lines := rfl
@[simp] theorem raise_lineTable (s : State) (c : SystemCause) : (raise c s).lineTable = s.lineTable := rfl
@[simp] theorem raise_profiles (s : State) (c : SystemCause) : (raise c s).profiles = s.profiles := rfl
@[simp] theorem raise_time (s : State) (c : SystemCause) : (raise c s).time = s.time := rfl
@[simp] theorem raise_groups (s : State) (c : SystemCause) : (raise c s).groups = s.groups := rfl
@[simp] theorem raise_rules (s : State) (c : SystemCause) : (raise c s).rules = s.rules := rfl
@[simp] theorem raise_exhausted (s : State) (c : SystemCause) : (raise c s).exhausted = s.exhausted := rfl
@[simp] theorem raise_alarms (s : State) (c : SystemCause) : (raise c s).alarms = s.alarms := rfl
@[simp] theorem raise_store (s : State) (c : SystemCause) : (raise c s).store = s.store := rfl
@[simp] theorem raise_channels (s : State) (c : SystemCause) : (raise c s).channels = s.channels := rfl
@[simp] theorem raise_outputs (s : State) (c : SystemCause) : (raise c s).outputs = s.outputs := rfl
@[simp] theorem raise_irq (s : State) (c : SystemCause) : (raise c s).irq = { s.irq with system := put s.irq.system c.idx true } := rfl
@[simp] theorem raise_slots (s : State) (c : SystemCause) : (raise c s).slots = s.slots := rfl
@[simp] theorem raise_ports (s : State) (c : SystemCause) : (raise c s).ports = s.ports := rfl
@[simp] theorem raise_tableStatus (s : State) (c : SystemCause) : (raise c s).tableStatus = s.tableStatus := rfl
@[simp] theorem raise_inReset (s : State) (c : SystemCause) : (raise c s).inReset = s.inReset := rfl
@[simp] theorem raise_clockRunning (s : State) (c : SystemCause) : (raise c s).clockRunning = s.clockRunning := rfl
@[simp] theorem raise_lastRead (s : State) (c : SystemCause) : (raise c s).lastRead = s.lastRead := rfl
@[simp] theorem raise_freeIndex (s : State) (c : SystemCause) : (raise c s).freeIndex = s.freeIndex := rfl
@[simp] theorem raise_pending (s : State) (c : SystemCause) : (raise c s).pending = s.pending := rfl

@[simp] theorem raiseChannel_lines (s : State) (h : Half) (c : ChannelCause) : (raiseChannel h c s).lines = s.lines := rfl
@[simp] theorem raiseChannel_lineTable (s : State) (h : Half) (c : ChannelCause) : (raiseChannel h c s).lineTable = s.lineTable := rfl
@[simp] theorem raiseChannel_profiles (s : State) (h : Half) (c : ChannelCause) : (raiseChannel h c s).profiles = s.profiles := rfl
@[simp] theorem raiseChannel_time (s : State) (h : Half) (c : ChannelCause) : (raiseChannel h c s).time = s.time := rfl
@[simp] theorem raiseChannel_groups (s : State) (h : Half) (c : ChannelCause) : (raiseChannel h c s).groups = s.groups := rfl
@[simp] theorem raiseChannel_rules (s : State) (h : Half) (c : ChannelCause) : (raiseChannel h c s).rules = s.rules := rfl
@[simp] theorem raiseChannel_exhausted (s : State) (h : Half) (c : ChannelCause) : (raiseChannel h c s).exhausted = s.exhausted := rfl
@[simp] theorem raiseChannel_alarms (s : State) (h : Half) (c : ChannelCause) : (raiseChannel h c s).alarms = s.alarms := rfl
@[simp] theorem raiseChannel_store (s : State) (h : Half) (c : ChannelCause) : (raiseChannel h c s).store = s.store := rfl
@[simp] theorem raiseChannel_channels (s : State) (h : Half) (c : ChannelCause) : (raiseChannel h c s).channels = s.channels := rfl
@[simp] theorem raiseChannel_outputs (s : State) (h : Half) (c : ChannelCause) : (raiseChannel h c s).outputs = s.outputs := rfl
@[simp] theorem raiseChannel_irq (s : State) (h : Half) (c : ChannelCause) : (raiseChannel h c s).irq = s.irq.setChannelFlag h c true := rfl
@[simp] theorem raiseChannel_slots (s : State) (h : Half) (c : ChannelCause) : (raiseChannel h c s).slots = s.slots := rfl
@[simp] theorem raiseChannel_ports (s : State) (h : Half) (c : ChannelCause) : (raiseChannel h c s).ports = s.ports := rfl
@[simp] theorem raiseChannel_tableStatus (s : State) (h : Half) (c : ChannelCause) : (raiseChannel h c s).tableStatus = s.tableStatus := rfl
@[simp] theorem raiseChannel_inReset (s : State) (h : Half) (c : ChannelCause) : (raiseChannel h c s).inReset = s.inReset := rfl
@[simp] theorem raiseChannel_clockRunning (s : State) (h : Half) (c : ChannelCause) : (raiseChannel h c s).clockRunning = s.clockRunning := rfl
@[simp] theorem raiseChannel_lastRead (s : State) (h : Half) (c : ChannelCause) : (raiseChannel h c s).lastRead = s.lastRead := rfl
@[simp] theorem raiseChannel_freeIndex (s : State) (h : Half) (c : ChannelCause) : (raiseChannel h c s).freeIndex = s.freeIndex := rfl
@[simp] theorem raiseChannel_pending (s : State) (h : Half) (c : ChannelCause) : (raiseChannel h c s).pending = s.pending := rfl

@[simp] theorem stepPort_lines (s : State) (h : Half) : (stepPort h s).lines = s.lines := rfl
@[simp] theorem stepPort_lineTable (s : State) (h : Half) : (stepPort h s).lineTable = s.lineTable := rfl
@[simp] theorem stepPort_profiles (s : State) (h : Half) : (stepPort h s).profiles = s.profiles := rfl
@[simp] theorem stepPort_time (s : State) (h : Half) : (stepPort h s).time = s.time := rfl
@[simp] theorem stepPort_groups (s : State) (h : Half) : (stepPort h s).groups = s.groups := rfl
@[simp] theorem stepPort_rules (s : State) (h : Half) : (stepPort h s).rules = s.rules := rfl
@[simp] theorem stepPort_exhausted (s : State) (h : Half) : (stepPort h s).exhausted = s.exhausted := rfl
@[simp] theorem stepPort_alarms (s : State) (h : Half) : (stepPort h s).alarms = s.alarms := rfl
@[simp] theorem stepPort_store (s : State) (h : Half) : (stepPort h s).store = s.store := rfl
@[simp] theorem stepPort_channels (s : State) (h : Half) : (stepPort h s).channels = s.channels := rfl
@[simp] theorem stepPort_outputs (s : State) (h : Half) : (stepPort h s).outputs = s.outputs := rfl
@[simp] theorem stepPort_irq (s : State) (h : Half) : (stepPort h s).irq = s.irq := rfl
@[simp] theorem stepPort_slots (s : State) (h : Half) : (stepPort h s).slots = s.slots := rfl
@[simp] theorem stepPort_ports (s : State) (h : Half) : (stepPort h s).ports = s.ports.set h (s.ports.get h).step := rfl
@[simp] theorem stepPort_tableStatus (s : State) (h : Half) : (stepPort h s).tableStatus = s.tableStatus := rfl
@[simp] theorem stepPort_inReset (s : State) (h : Half) : (stepPort h s).inReset = s.inReset := rfl
@[simp] theorem stepPort_clockRunning (s : State) (h : Half) : (stepPort h s).clockRunning = s.clockRunning := rfl
@[simp] theorem stepPort_lastRead (s : State) (h : Half) : (stepPort h s).lastRead = s.lastRead := rfl
@[simp] theorem stepPort_freeIndex (s : State) (h : Half) : (stepPort h s).freeIndex = s.freeIndex := rfl
@[simp] theorem stepPort_pending (s : State) (h : Half) : (stepPort h s).pending = s.pending := rfl

/-! ## Tables and pairs -/

/-- The entry written is the entry read. -/
@[simp] theorem get_put_same {α : Type} {n : Nat} (v : Vector α n) (i : Fin n) (x : α) : (put v i x).get i = x :=
  Vector.getElem_set_self i.isLt

/-- Every other entry stands. -/
theorem get_put_other {α : Type} {n : Nat} (v : Vector α n) (i j : Fin n) (x : α) (h : j ≠ i) :
    (put v i x).get j = v.get j :=
  Vector.getElem_set_ne i.isLt j.isLt fun e => h (Fin.ext e.symm)

/-- The later of two writes of an entry stands. -/
@[simp] theorem put_put_same {α : Type} {n : Nat} (v : Vector α n) (i : Fin n) (x y : α) :
    put (put v i x) i y = put v i y := Vector.set_set ..

/-- Writing an entry with what it holds changes nothing. -/
@[simp] theorem put_get {α : Type} {n : Nat} (v : Vector α n) (i : Fin n) : put v i (v.get i) = v :=
  Vector.set_getElem_self i.isLt

/-- The half written is the half read. -/
@[simp] theorem PerHalf.get_set_same {α : Type} (p : PerHalf α) (h : Half) (x : α) : (p.set h x).get h = x := by
  cases h <;> rfl

/-- The other half stands. -/
theorem PerHalf.get_set_other {α : Type} (p : PerHalf α) (h k : Half) (x : α) (ne : k ≠ h) : (p.set h x).get k = p.get k := by
  cases h <;> cases k <;> first | rfl | exact absurd rfl ne

/-- Writing a half with what it holds changes nothing. -/
@[simp] theorem PerHalf.set_get {α : Type} (p : PerHalf α) (h : Half) : p.set h (p.get h) = p := by
  cases h <;> rfl

/-- The later of two writes of a half stands. -/
@[simp] theorem PerHalf.set_set {α : Type} (p : PerHalf α) (h : Half) (x y : α) : (p.set h x).set h y = p.set h y := by
  cases h <;> rfl

/-! ## When something is taken -/

/-- Out of reset an access or a command acts (R183). -/
theorem live_running {s : State} (t : State) (h : s.inReset = false) : live s t = t := by simp [live, h]

/-- While RESETn is asserted it does not (R183). -/
theorem live_reset {s : State} (t : State) (h : s.inReset = true) : live s t = s := by simp [live, h]

/-- Out of reset and with CLK running a timer's expiry acts (R183, R203). -/
theorem timed_running {s : State} (t : State) (h : s.inReset = false) (k : s.clockRunning = true) : timed s t = t := by
  simp [timed, h, k]

/-- While RESETn is asserted no timer runs (R183). -/
theorem timed_reset {s : State} (t : State) (h : s.inReset = true) : timed s t = s := by simp [timed, h]

/-- Out of reset a read returns its word (R182). -/
theorem readStrobe_running {s : State} (w : Word) (t : State) (h : s.inReset = false) :
    readStrobe s w t = { t with lastRead := w } := by simp [readStrobe, h]

/-- While RESETn is asserted a read returns 0000h (R183). -/
theorem readStrobe_reset {s : State} (w : Word) (t : State) (h : s.inReset = true) :
    readStrobe s w t = { s with lastRead := 0 } := by simp [readStrobe, h]

end Sys2Proof.Machine
end

