-- ==== Sys2Proof/Laws/Reports.lean ====
section
/-! SUPPORT. Laws/Reports: what appending, dropping and reclaiming records leave alone, and how each changes the records, numbers and
pending loss (Chapter 4). -/
namespace Sys2Proof.Machine

/-! ## OnlyReports is kept by composition -/

theorem OnlyReports.refl (s : State) : OnlyReports s s := by constructor <;> intros <;> rfl

theorem OnlyReports.trans {s t u : State} (a : OnlyReports s t) (b : OnlyReports t u) : OnlyReports s u where
  lines := b.lines.trans a.lines
  lineTable := b.lineTable.trans a.lineTable
  profiles := b.profiles.trans a.profiles
  time := b.time.trans a.time
  groups := b.groups.trans a.groups
  rules := b.rules.trans a.rules
  exhausted := b.exhausted.trans a.exhausted
  alarms := b.alarms.trans a.alarms
  outputs := b.outputs.trans a.outputs
  slots := b.slots.trans a.slots
  ports := b.ports.trans a.ports
  tableStatus := b.tableStatus.trans a.tableStatus
  inReset := b.inReset.trans a.inReset
  clockRunning := b.clockRunning.trans a.clockRunning
  lastRead := b.lastRead.trans a.lastRead
  freeIndex := b.freeIndex.trans a.freeIndex
  pending := b.pending.trans a.pending
  policy := b.policy.trans a.policy
  enabled h := (b.enabled h).trans (a.enabled h)
  threshold h := (b.threshold h).trans (a.threshold h)
  holdoff h := (b.holdoff h).trans (a.holdoff h)
  torn h := (b.torn h).trans (a.torn h)
  emptyRead h := (b.emptyRead h).trans (a.emptyRead h)
  system := b.system.trans a.system
  routes := b.routes.trans a.routes
  enables h := (b.enables h).trans (a.enables h)

/-! ## Each operation -/

/-- A change of a channel's cursor, offset, missed count or timer. -/
theorem setChannel_onlyReports (s : State) (h : Half) (x : Channel)
    (kept : x.enabled = (s.channels.get h).enabled ∧ x.threshold = (s.channels.get h).threshold ∧
      x.holdoff = (s.channels.get h).holdoff ∧ x.torn = (s.channels.get h).torn ∧
      x.emptyRead = (s.channels.get h).emptyRead) : OnlyReports s (s.setChannel h x) := by
  obtain ⟨a, b, c, d, e⟩ := kept
  constructor <;> (try rfl) <;> intro k <;> cases h <;> cases k <;> simp_all [State.setChannel, PerHalf.set, PerHalf.get]

theorem raiseChannel_onlyReports (s : State) (h : Half) (c : ChannelCause) : OnlyReports s (raiseChannel h c s) := by
  constructor <;> (try rfl) <;> intro k <;> (try rfl)
  cases h <;> cases k <;> rfl

theorem withStore_onlyReports (s : State) (st : Store) (same : st.policy = s.store.policy) :
    OnlyReports s { s with store := st } := by
  constructor <;> (try exact same) <;> intros <;> rfl

theorem readyRules_onlyReports (h : Half) (old : Nat) (s : State) : OnlyReports s (readyRules h old s) := by
  unfold readyRules
  have started : ∀ b : Prop, [Decidable b] → OnlyReports s (if b then
      s.setChannel h { s.channels.get h with holdoffTimer := some (s.inMillis (s.channels.get h).holdoff.toNat) } else s) := by
    intro b _
    split
    · exact setChannel_onlyReports _ _ _ ⟨rfl, rfl, rfl, rfl, rfl⟩
    · exact OnlyReports.refl s
  dsimp only
  split
  · exact (started _).trans (raiseChannel_onlyReports _ _ _)
  · exact started _

theorem appendNotice_onlyReports (h : Half) (s : State) : OnlyReports s (appendNotice h s) := by
  unfold appendNotice
  dsimp only
  split
  · refine OnlyReports.trans ?_ (readyRules_onlyReports _ _ _)
    exact setChannel_onlyReports _ _ _ ⟨rfl, rfl, rfl, rfl, rfl⟩
  · exact OnlyReports.refl s

theorem dropNotice_onlyReports (h : Half) (s : State) : OnlyReports s (dropNotice h s) := by
  unfold dropNotice
  dsimp only
  split
  · refine OnlyReports.trans ?_ (raiseChannel_onlyReports _ _ _)
    exact setChannel_onlyReports _ _ _ ⟨rfl, rfl, rfl, rfl, rfl⟩
  · exact OnlyReports.refl s

theorem lossNotice_onlyReports (h : Half) (s : State) : OnlyReports s (lossNotice h s) := by
  unfold lossNotice
  split
  · exact raiseChannel_onlyReports _ _ _
  · exact OnlyReports.refl s

theorem writeRecord_onlyReports (stamp : Stamp) (test : Bool) (body : Body) (s : State) :
    OnlyReports s (writeRecord stamp test body s) := by
  refine OnlyReports.trans (OnlyReports.trans ?_ (appendNotice_onlyReports .control _)) (appendNotice_onlyReports .archive _)
  exact withStore_onlyReports _ _ rfl

theorem writeLoss_onlyReports (s : State) : OnlyReports s (writeLoss s) := by
  unfold writeLoss
  split
  · exact OnlyReports.refl s
  · refine OnlyReports.trans ?_ (writeRecord_onlyReports _ _ _ _)
    exact withStore_onlyReports _ _ rfl

theorem dropOldest_onlyReports (s : State) : OnlyReports s (dropOldest s) := by
  refine OnlyReports.trans (OnlyReports.trans (dropNotice_onlyReports .control s) (dropNotice_onlyReports .archive _)) ?_
  exact withStore_onlyReports _ _ rfl

theorem dropRecords_onlyReports (n : Nat) (s : State) : OnlyReports s (dropRecords n s) := by
  induction n generalizing s with
  | zero => exact OnlyReports.refl s
  | succ n ih => exact (dropOldest_onlyReports s).trans (ih _)

theorem acceptAppend_onlyReports (stamp : Stamp) (test : Bool) (body : Body) (s : State) :
    OnlyReports s (acceptAppend stamp test body s).2 :=
  (writeLoss_onlyReports s).trans (writeRecord_onlyReports _ _ _ _)

theorem refuseAppend_onlyReports (stamp : Stamp) (s : State) : OnlyReports s (refuseAppend stamp s).2 := by
  unfold refuseAppend
  dsimp only
  split
  · exact withStore_onlyReports _ _ rfl
  · refine OnlyReports.trans (OnlyReports.trans ?_ (lossNotice_onlyReports .control _)) (lossNotice_onlyReports .archive _)
    exact withStore_onlyReports _ _ rfl

/-- An append request changes nothing but what appending changes. -/
theorem append_onlyReports (stamp : Stamp) (test : Bool) (body : Body) (s : State) :
    OnlyReports s (append stamp test body s).2 := by
  unfold append
  split
  · exact acceptAppend_onlyReports _ _ _ _
  · split
    · exact refuseAppend_onlyReports _ _
    · split
      · exact refuseAppend_onlyReports _ _
      · exact (dropRecords_onlyReports _ _).trans (acceptAppend_onlyReports _ _ _ _)

theorem report_onlyReports (stamp : Stamp) (test : Bool) (body : Body) (s : State) :
    OnlyReports s (report stamp test body s) := append_onlyReports _ _ _ _

theorem reclaim_onlyReports (s : State) : OnlyReports s (reclaim s) := by
  unfold reclaim
  dsimp only
  split
  · refine OnlyReports.trans ?_ (writeLoss_onlyReports _)
    exact withStore_onlyReports _ _ rfl
  · exact withStore_onlyReports _ _ rfl

theorem consume_onlyReports (h : Half) (s : State) : OnlyReports s (consume h s) := by
  refine OnlyReports.trans ?_ (reclaim_onlyReports _)
  exact setChannel_onlyReports _ _ _ ⟨rfl, rfl, rfl, rfl, rfl⟩

end Sys2Proof.Machine
end

