-- ==== Sys2Proof/Laws/Store.lean ====
section
/-! SUPPORT. Laws/Store: what each operation of the Event Store leaves in the store, and what keeps its reserve (R68) and its numbering
(R67). -/
namespace Sys2Proof.Machine

/-! ## Notices leave the store alone -/

@[simp] theorem readyRules_store (h : Half) (old : Nat) (s : State) : (readyRules h old s).store = s.store := by
  unfold readyRules; dsimp only; split <;> split <;> rfl

@[simp] theorem appendNotice_store (h : Half) (s : State) : (appendNotice h s).store = s.store := by
  unfold appendNotice; dsimp only; split <;> simp

@[simp] theorem dropNotice_store (h : Half) (s : State) : (dropNotice h s).store = s.store := by
  unfold dropNotice; dsimp only; split <;> simp

@[simp] theorem lossNotice_store (h : Half) (s : State) : (lossNotice h s).store = s.store := by
  unfold lossNotice; split <;> simp

@[simp] theorem clearNotice_store (h : Half) (cause : Bool) (s : State) : (clearNotice h cause s).store = s.store := by
  unfold clearNotice; dsimp only; split <;> simp

/-! ## Writing, dropping, refusing -/

/-- A written record stands at the newest end with the Next Number (R60, R66). -/
theorem writeRecord_store (stamp : Stamp) (test : Bool) (body : Body) (s : State) :
    (writeRecord stamp test body s).store = { s.store with
      records := s.store.records ++ [⟨s.store.next, stamp, test, body⟩]
      tail := s.store.tail + BitVec.ofNat 12 body.len
      next := s.store.next + 1 } := by simp [writeRecord]

/-- With no loss pending no LOSS record is written. -/
theorem writeLoss_none {s : State} (h : s.store.loss = none) : writeLoss s = s := by simp [writeLoss, h]

/-- The LOSS record of a pending loss closes it (R71). -/
theorem writeLoss_store {s : State} {p : PendingLoss} (h : s.store.loss = some p) :
    (writeLoss s).store = { s.store with
      records := s.store.records ++ [⟨s.store.next, p.stamp, false, .loss p.first p.count⟩]
      tail := s.store.tail + BitVec.ofNat 12 (Body.loss p.first p.count).len
      next := s.store.next + 1
      loss := none } := by simp [writeLoss, h, writeRecord_store]

/-- Dropping removes the oldest records (R75). -/
theorem dropRecords_store (n : Nat) (s : State) :
    (dropRecords n s).store = { s.store with records := s.store.records.drop n } := by
  induction n generalizing s with
  | zero => simp [dropRecords]
  | succ n ih => simp [dropRecords, ih, dropOldest]

/-- A refused request takes the Next Number (R66, R70). -/
theorem refuseAppend_number (stamp : Stamp) (s : State) : (refuseAppend stamp s).1 = s.store.next := by
  unfold refuseAppend; dsimp only; split <;> rfl

/-- A refusal with no loss pending opens one (R70). -/
theorem refuseAppend_opens {s : State} (stamp : Stamp) (h : s.store.loss = none) :
    (refuseAppend stamp s).2.store = { s.store with
      next := s.store.next + 1
      loss := some ⟨s.store.next, 1, stamp⟩ } := by simp [refuseAppend, h]

/-- A refusal with a loss pending extends it (R70). -/
theorem refuseAppend_extends {s : State} {p : PendingLoss} (stamp : Stamp) (h : s.store.loss = some p) :
    (refuseAppend stamp s).2.store = { s.store with
      next := s.store.next + 1
      loss := some { p with count := p.count + 1 } } := by simp [refuseAppend, h]

/-! ## Under HOLD nothing is removed -/

/-- t's store holds s's records and perhaps newer ones. -/
def Grows (s t : State) : Prop := ∃ more, t.store.records = s.store.records ++ more

theorem Grows.refl (s : State) : Grows s s := ⟨[], by simp⟩

theorem Grows.trans {s t u : State} (a : Grows s t) (b : Grows t u) : Grows s u := by
  obtain ⟨x, hx⟩ := a
  obtain ⟨y, hy⟩ := b
  exact ⟨x ++ y, by rw [hy, hx, List.append_assoc]⟩

theorem writeLoss_grows (s : State) : Grows s (writeLoss s) := by
  obtain l | ⟨p, l⟩ : s.store.loss = none ∨ ∃ p, s.store.loss = some p := by cases s.store.loss <;> simp
  · rw [writeLoss_none l]; exact Grows.refl s
  · exact ⟨_, by rw [writeLoss_store l]⟩

/-- An append request under HOLD removes no record (R69). -/
theorem append_grows (stamp : Stamp) (test : Bool) (body : Body) (s : State) (hold : s.store.policy = .hold) :
    Grows s (append stamp test body s).2 := by
  unfold append
  split
  · exact (writeLoss_grows s).trans ⟨_, by rw [acceptAppend, writeRecord_store]⟩
  · rw [hold]
    obtain l | ⟨p, l⟩ : s.store.loss = none ∨ ∃ p, s.store.loss = some p := by cases s.store.loss <;> simp
    · exact ⟨[], by simp [refuseAppend_opens stamp l]⟩
    · exact ⟨[], by simp [refuseAppend_extends stamp l]⟩

/-! ## Lengths and space -/

@[simp] theorem wordsOf_nil : wordsOf [] = 0 := rfl

@[simp] theorem wordsOf_cons (r : Record) (rs : List Record) : wordsOf (r :: rs) = r.len + wordsOf rs := by simp [wordsOf]

@[simp] theorem wordsOf_append (as bs : List Record) : wordsOf (as ++ bs) = wordsOf as + wordsOf bs := by simp [wordsOf]

/-- At most four references are present. -/
theorem presentRefs_length (refs : Vector (Option Word) 4) : (presentRefs refs).length ≤ 4 := by
  have h := List.length_filterMap_le id refs.toList
  simpa [presentRefs] using h

/-- A record is 6 to 13 words long (R60, Table 20). -/
theorem Body.len_bounds (b : Body) : 6 ≤ b.len ∧ b.len ≤ 13 := by
  cases b with
  | line _ _ _ _ _ mask => cases mask <;> simp [Body.len, Body.words, maskWords]
  | groupTrip _ _ _ _ _ ref => cases ref <;> simp [Body.len, Body.words, maskWords]
  | matched _ _ refs => have := presentRefs_length refs; simp [Body.len, Body.words]; omega
  | lapsed _ _ _ refs => have := presentRefs_length refs; simp [Body.len, Body.words]; omega
  | _ => simp [Body.len, Body.words, maskWords, timeWords, countWords]

/-- A LOSS record is 8 words long (R71). -/
@[simp] theorem Body.len_loss (first : Word) (count : BitVec 32) : (Body.loss first count).len = 8 := rfl

/-- A request asks for its length and 5 words, with a loss pending 8 words more (R68). -/
theorem Store.need_eq (st : Store) (n : Nat) : st.need n = if st.loss.isSome then n + 13 else n + 5 := by
  unfold Store.need; split <;> rfl

/-- The records dropped for a request meet its need, when removing all of them would (R74). -/
theorem dropsNeeded_enough (need : Nat) (rs : List Record) (free : Nat) (h : need ≤ free + wordsOf rs) :
    need ≤ free + wordsOf (rs.take (dropsNeeded need free rs)) := by
  induction rs generalizing free with
  | nil => simpa [dropsNeeded] using h
  | cons r rs ih =>
    unfold dropsNeeded
    split
    · simpa
    · rw [Nat.add_comm 1, List.take_succ_cons, wordsOf_cons, ← Nat.add_assoc]
      exact ih _ (by simpa [Nat.add_assoc] using h)

/-- They are the fewest: with one record less the need is not met (R74). -/
theorem dropsNeeded_fewest (need : Nat) (rs : List Record) (free : Nat) (n : Nat) (h : n < dropsNeeded need free rs) :
    free + wordsOf (rs.take n) < need := by
  induction rs generalizing free n with
  | nil => simp [dropsNeeded] at h
  | cons r rs ih =>
    unfold dropsNeeded at h
    split at h
    · omega
    · cases n with
      | zero => simp; omega
      | succ n =>
        rw [List.take_succ_cons, wordsOf_cons, ← Nat.add_assoc]
        exact ih _ _ (by omega)

theorem wordsOf_take_drop (rs : List Record) (n : Nat) : wordsOf (rs.take n) + wordsOf (rs.drop n) = wordsOf rs := by
  rw [← wordsOf_append, List.take_append_drop]

/-! ## The reserve -/

/-- An accepted request keeps the reserve when it fits (R68). -/
theorem acceptAppend_keepsReserve (stamp : Stamp) (test : Bool) (body : Body) (s : State)
    (fits : wordsOf s.store.records + s.store.need body.len ≤ 4096) :
    (acceptAppend stamp test body s).2.store.keepsReserve := by
  rw [Store.need_eq] at fits
  unfold acceptAppend Store.keepsReserve
  simp only [writeRecord_store, wordsOf_append, wordsOf_cons, wordsOf_nil, Record.len]
  cases h : s.store.loss with
  | none => simp [writeLoss_none h, h] at *; omega
  | some p => simp [writeLoss_store h, h, Record.len] at *; omega

/-- Every append request keeps the reserve (R68). -/
theorem append_keepsReserve (stamp : Stamp) (test : Bool) (body : Body) (s : State) (kept : s.store.keepsReserve) :
    (append stamp test body s).2.store.keepsReserve := by
  have refused : (refuseAppend stamp s).2.store.keepsReserve := by
    cases h : s.store.loss with
    | none => rw [refuseAppend_opens stamp h]; exact kept
    | some p => rw [refuseAppend_extends stamp h]; exact kept
  have bounds := body.len_bounds
  unfold Store.keepsReserve at kept
  have needs := Store.need_eq s.store body.len
  unfold append
  split
  · rename_i fits
    refine acceptAppend_keepsReserve _ _ _ _ ?_
    unfold Store.free at fits
    split at needs <;> omega
  · split
    · exact refused
    · split
      · exact refused
      · refine acceptAppend_keepsReserve _ _ _ _ ?_
        rw [dropRecords_store]
        have enough := dropsNeeded_enough (s.store.need body.len) s.store.records s.store.free (by
          unfold Store.free; split at needs <;> omega)
        have parts := wordsOf_take_drop s.store.records (s.dropsFor body.len)
        have same : ({ s.store with records := s.store.records.drop (s.dropsFor body.len) } : Store).need body.len =
          s.store.need body.len := rfl
        rw [same]
        unfold State.dropsFor at *
        unfold Store.free at *
        dsimp only
        omega

theorem report_keepsReserve (stamp : Stamp) (test : Bool) (body : Body) (s : State) (kept : s.store.keepsReserve) :
    (report stamp test body s).store.keepsReserve := append_keepsReserve stamp test body s kept

/-- A reclaim keeps the reserve (R77). -/
theorem reclaim_keepsReserve (s : State) (kept : s.store.keepsReserve) : (reclaim s).store.keepsReserve := by
  have parts := wordsOf_take_drop s.store.records s.reclaimable
  unfold Store.keepsReserve at *
  unfold reclaim
  dsimp only
  split
  · rename_i h
    unfold Store.free at h
    obtain l | ⟨p, l⟩ : s.store.loss = none ∨ ∃ p, s.store.loss = some p := by cases s.store.loss <;> simp
    · rw [writeLoss_none (by exact l)]
      dsimp only at *
      omega
    · rw [writeLoss_store (p := p) (by exact l)]
      simp only [wordsOf_append, wordsOf_cons, wordsOf_nil, Record.len, Body.len_loss] at *
      omega
  · dsimp only
    omega

theorem consume_keepsReserve (h : Half) (s : State) (kept : s.store.keepsReserve) : (consume h s).store.keepsReserve :=
  reclaim_keepsReserve _ kept

/-! ## The numbering -/

/-- A numbered list stays numbered without its oldest records. -/
theorem numbered_drop (rs : List Record) (n : Nat) (h : numbered rs) : numbered (rs.drop n) := by
  induction n generalizing rs with
  | zero => exact h
  | succ n ih =>
    match rs, h with
    | [], _ => trivial
    | [_], _ => simp [numbered]
    | _ :: b :: rest, h => exact ih (b :: rest) h.2

/-- A record that follows the newest one may be added. -/
theorem numbered_add (rs : List Record) (b : Record) (h : numbered rs)
    (next : ∀ r, rs.getLast? = some r → b.follows r) : numbered (rs ++ [b]) := by
  induction rs with
  | nil => trivial
  | cons a rest ih =>
    match rest, h, ih, next with
    | [], _, _, next => exact ⟨next a rfl, trivial⟩
    | c :: rest, h, ih, next =>
      refine ⟨h.1, ih h.2 fun r e => next r ?_⟩
      simpa using e

/-- The newest record after a removal from the oldest end is still the newest. -/
theorem getLast?_drop_some {α : Type} {rs : List α} {n : Nat} {r : α} (h : (rs.drop n).getLast? = some r) :
    rs.getLast? = some r := by
  rw [List.getLast?_drop] at h
  split at h
  · cases h
  · exact h

/-- A removal from the oldest end keeps the account. -/
theorem Store.accounts_drop (st : Store) (n : Nat) (h : st.accounts) :
    ({ st with records := st.records.drop n } : Store).accounts := by
  obtain ⟨a, b⟩ := h
  refine ⟨numbered_drop _ _ a, ?_⟩
  show match st.loss with | none => _ | some p => _
  split
  · rename_i l
    rw [l] at b
    exact fun r e => b r (getLast?_drop_some e)
  · rename_i l
    rw [l] at b
    exact ⟨b.1, fun r e => b.2 r (getLast?_drop_some e)⟩

/-- A LOSS record keeps the account. -/
theorem writeLoss_accounts (s : State) (h : s.store.accounts) : (writeLoss s).store.accounts := by
  obtain l | ⟨p, l⟩ : s.store.loss = none ∨ ∃ p, s.store.loss = some p := by cases s.store.loss <;> simp
  · rwa [writeLoss_none l]
  · obtain ⟨a, b⟩ := h
    rw [l] at b
    rw [writeLoss_store l]
    refine ⟨numbered_add _ _ a fun r e => ⟨b.2 r e, b.1⟩, ?_⟩
    intro r e
    simp at e
    subst e
    rfl

/-- After the LOSS record none is pending. -/
theorem writeLoss_loss (s : State) : (writeLoss s).store.loss = none := by
  obtain l | ⟨p, l⟩ : s.store.loss = none ∨ ∃ p, s.store.loss = some p := by cases s.store.loss <;> simp
  · rwa [writeLoss_none l]
  · rw [writeLoss_store l]

/-- A record other than a LOSS record follows the one whose number is one less. -/
theorem Record.follows_of_number {a b : Record} (kind : b.body.kind ≠ 14) (h : b.number = a.number + 1) : b.follows a := by
  unfold Record.follows
  split
  · rename_i e
    rw [e] at kind
    exact absurd rfl kind
  · exact h

/-- An append request for a record other than a LOSS record keeps the account (R66, R67, R70). -/
theorem append_accounts (stamp : Stamp) (test : Bool) (body : Body) (s : State) (kind : body.kind ≠ 14)
    (h : s.store.accounts) : (append stamp test body s).2.store.accounts := by
  have accepted : ∀ t : State, t.store.accounts → (acceptAppend stamp test body t).2.store.accounts := by
    intro t ok
    have w := writeLoss_accounts t ok
    have none_ := writeLoss_loss t
    obtain ⟨a, b⟩ := w
    rw [none_] at b
    unfold acceptAppend
    rw [writeRecord_store]
    refine ⟨numbered_add _ _ a fun r e => Record.follows_of_number kind (b r e), ?_⟩
    dsimp only
    rw [none_]
    intro r e
    simp at e
    subst e
    rfl
  have refused : (refuseAppend stamp s).2.store.accounts := by
    obtain ⟨a, b⟩ := h
    obtain l | ⟨p, l⟩ : s.store.loss = none ∨ ∃ p, s.store.loss = some p := by cases s.store.loss <;> simp
    · rw [l] at b
      rw [refuseAppend_opens stamp l]
      exact ⟨a, rfl, b⟩
    · rw [l] at b
      rw [refuseAppend_extends stamp l]
      refine ⟨a, ?_, b.2⟩
      have sum : ∀ x : BitVec 32, (x + 1).setWidth 16 = x.setWidth 16 + (1 : BitVec 16) := by
        intro x
        rw [BitVec.setWidth_add _ _ (by decide)]
        rfl
      dsimp only
      rw [b.1, sum, BitVec.add_assoc]
  unfold append
  split
  · exact accepted s h
  · split
    · exact refused
    · split
      · exact refused
      · refine accepted _ ?_
        rw [dropRecords_store]
        exact Store.accounts_drop _ _ h

theorem report_accounts (stamp : Stamp) (test : Bool) (body : Body) (s : State) (kind : body.kind ≠ 14)
    (h : s.store.accounts) : (report stamp test body s).store.accounts := append_accounts stamp test body s kind h

/-- A reclaim keeps the account (R77). -/
theorem reclaim_accounts (s : State) (h : s.store.accounts) : (reclaim s).store.accounts := by
  unfold reclaim
  dsimp only
  split
  · exact writeLoss_accounts _ (Store.accounts_drop _ _ h)
  · exact Store.accounts_drop _ _ h

theorem consume_accounts (h : Half) (s : State) (ok : s.store.accounts) : (consume h s).store.accounts :=
  reclaim_accounts _ ok

end Sys2Proof.Machine
end

