-- ==== Sys2Proof/Laws/Channels.lean ====
section
/-! SUPPORT. Laws/Channels: what each notice makes of the channel that takes it, and that it leaves the other half alone (Chapter 5). -/
namespace Sys2Proof.Machine

/-! ## Flags -/

/-- The flag set stands set. -/
theorem raiseChannel_sets (h : Half) (c : ChannelCause) (s : State) : (raiseChannel h c s).channelCauseSet h c = true := by
  unfold State.channelCauseSet
  rw [raiseChannel_irq, InterruptUnit.setChannelFlag, PerHalf.get_set_same]
  exact get_put_same _ _ _

/-- Distinct causes have distinct places. -/
theorem ChannelCause.idx_ne {c d : ChannelCause} (h : d ≠ c) : d.idx ≠ c.idx := by
  cases c <;> cases d <;> first | exact absurd rfl h | decide

/-- Every other flag stands as it did. -/
theorem raiseChannel_other (h k : Half) (c d : ChannelCause) (s : State) (ne : k ≠ h ∨ d ≠ c) :
    (raiseChannel h c s).channelCauseSet k d = s.channelCauseSet k d := by
  unfold State.channelCauseSet
  rw [raiseChannel_irq, InterruptUnit.setChannelFlag]
  by_cases e : k = h
  · subst e
    rw [PerHalf.get_set_same]
    exact get_put_other _ _ _ _ (ChannelCause.idx_ne (ne.resolve_left fun n => n rfl))
  · rw [PerHalf.get_set_other _ _ _ _ e]

/-- The other half's flags and enables stand. -/
theorem raiseChannel_half (h k : Half) (c : ChannelCause) (s : State) (ne : k ≠ h) :
    (raiseChannel h c s).irq.channel.get k = s.irq.channel.get k := PerHalf.get_set_other _ _ _ _ ne

@[simp] theorem setChannel_channelCauseSet (s : State) (h k : Half) (x : Channel) (c : ChannelCause) :
    (s.setChannel h x).channelCauseSet k c = s.channelCauseSet k c := rfl

/-! ## The READY rules -/

/-- The READY rules at their channel: the holdoff starts on a rise from 0 (R102). -/
theorem readyRules_own (h : Half) (old : Nat) (s : State) :
    (readyRules h old s).channels.get h = { s.channels.get h with
      holdoffTimer := if old = 0 ∧ 0 < (s.channels.get h).unread ∧ (s.channels.get h).holdoff ≠ 0 then
        some (s.inMillis (s.channels.get h).holdoff.toNat) else (s.channels.get h).holdoffTimer } := by
  unfold readyRules
  dsimp only
  split <;> split <;> simp_all

/-- The READY rules set READY on a rise to the threshold (R101). -/
theorem readyRules_ready (h : Half) (old : Nat) (s : State) :
    (readyRules h old s).channelCauseSet h .ready = (s.channelCauseSet h .ready ||
      decide (old < (s.channels.get h).threshold.toNat ∧ (s.channels.get h).threshold.toNat ≤ (s.channels.get h).unread)) := by
  unfold readyRules
  dsimp only
  split
  · rename_i c
    rw [raiseChannel_sets, decide_eq_true c, Bool.or_true]
  · rename_i c
    rw [decide_eq_false c, Bool.or_false]
    split <;> rfl

/-- The READY rules leave the other half alone. -/
theorem readyRules_half (h k : Half) (old : Nat) (s : State) (ne : k ≠ h) :
    (readyRules h old s).channels.get k = s.channels.get k ∧
    (readyRules h old s).irq.channel.get k = s.irq.channel.get k := by
  unfold readyRules
  dsimp only
  split <;> split <;> simp [PerHalf.get_set_other _ _ _ _ ne, InterruptUnit.setChannelFlag]

/-- The READY rules leave every other flag alone. -/
theorem readyRules_other (h : Half) (old : Nat) (s : State) (c : ChannelCause) (ne : c ≠ .ready) :
    (readyRules h old s).channelCauseSet h c = s.channelCauseSet h c := by
  unfold readyRules
  dsimp only
  split
  · rw [raiseChannel_other _ _ _ _ _ (Or.inr ne)]
    split <;> rfl
  · split <;> rfl

/-! ## Notices -/

/-- The channel's half is all that an append notice reaches. -/
theorem appendNotice_half (h k : Half) (s : State) (ne : k ≠ h) :
    (appendNotice h s).channels.get k = s.channels.get k ∧ (appendNotice h s).irq.channel.get k = s.irq.channel.get k := by
  unfold appendNotice
  dsimp only
  split
  · rw [(readyRules_half _ _ _ _ ne).1, (readyRules_half _ _ _ _ ne).2]
    simp [PerHalf.get_set_other _ _ _ _ ne]
  · exact ⟨rfl, rfl⟩

/-- A disabled channel ignores an append notice (R87). -/
theorem appendNotice_disabled {h : Half} {s : State} (off : (s.channels.get h).enabled = false) : appendNotice h s = s := by
  simp [appendNotice, off]

/-- An enabled channel counts an appended record (R87, R102). -/
theorem appendNotice_own {h : Half} {s : State} (on : (s.channels.get h).enabled = true) :
    (appendNotice h s).channels.get h = { s.channels.get h with
      unread := (s.channels.get h).unread + 1
      offset := if (s.channels.get h).unread = 0 then 0 else (s.channels.get h).offset
      holdoffTimer := if (s.channels.get h).unread = 0 ∧ (s.channels.get h).holdoff ≠ 0 then
        some (s.inMillis (s.channels.get h).holdoff.toNat) else (s.channels.get h).holdoffTimer } := by
  simp [appendNotice, on, readyRules_own, State.inMillis]

/-- Its READY is set where the count reaches the threshold (R101). -/
theorem appendNotice_ready {h : Half} {s : State} (on : (s.channels.get h).enabled = true) :
    (appendNotice h s).channelCauseSet h .ready = (s.channelCauseSet h .ready ||
      decide ((s.channels.get h).unread + 1 = (s.channels.get h).threshold.toNat)) := by
  have same : (s.channels.get h).unread < (s.channels.get h).threshold.toNat ∧
      (s.channels.get h).threshold.toNat ≤ (s.channels.get h).unread + 1 ↔
      (s.channels.get h).unread + 1 = (s.channels.get h).threshold.toNat := by omega
  simp [appendNotice, on, readyRules_ready, same]

/-- An append notice sets no other flag. -/
theorem appendNotice_other (h : Half) (s : State) (c : ChannelCause) (ne : c ≠ .ready) :
    (appendNotice h s).channelCauseSet h c = s.channelCauseSet h c := by
  unfold appendNotice
  dsimp only
  split
  · rw [readyRules_other _ _ _ _ ne]
    rfl
  · rfl

/-- The channel's half is all that a drop notice reaches. -/
theorem dropNotice_half (h k : Half) (s : State) (ne : k ≠ h) :
    (dropNotice h s).channels.get k = s.channels.get k ∧ (dropNotice h s).irq.channel.get k = s.irq.channel.get k := by
  unfold dropNotice
  dsimp only
  split
  · simp [PerHalf.get_set_other _ _ _ _ ne, InterruptUnit.setChannelFlag]
  · exact ⟨rfl, rfl⟩

/-- A channel whose cursor is not on the dropped record stands (R88). -/
theorem dropNotice_elsewhere {h : Half} {s : State} (off : ¬((s.channels.get h).enabled = true ∧
    (s.channels.get h).unread ≠ 0 ∧ (s.channels.get h).unread = s.store.records.length)) : dropNotice h s = s := by
  unfold dropNotice
  dsimp only
  exact if_neg off

/-- A channel whose cursor is on the dropped record moves on, counts it and sets MISSED (R88). -/
theorem dropNotice_on {h : Half} {s : State} (on : (s.channels.get h).enabled = true ∧
    (s.channels.get h).unread ≠ 0 ∧ (s.channels.get h).unread = s.store.records.length) :
    dropNotice h s = raiseChannel h .missed (s.setChannel h { s.channels.get h with
      unread := (s.channels.get h).unread - 1
      offset := 0
      missed := satInc (s.channels.get h).missed
      holdoffTimer := if (s.channels.get h).unread = 1 then none else (s.channels.get h).holdoffTimer }) := by
  unfold dropNotice
  dsimp only
  exact if_pos on

/-- A channel after a clear notice (R99, R106). -/
theorem clearNotice_own (h : Half) (cause : Bool) (s : State) :
    (clearNotice h cause s).channels.get h = { s.channels.get h with
      unread := 0
      offset := 0
      holdoffTimer := none
      torn := (s.channels.get h).torn || ((s.channels.get h).enabled && decide (0 < (s.channels.get h).offset)) } := by
  unfold clearNotice
  dsimp only
  split <;> simp

/-- Its TORN cause is set where it was torn and the clear sets causes. -/
theorem clearNotice_torn (h : Half) (cause : Bool) (s : State) :
    (clearNotice h cause s).channelCauseSet h .torn = (s.channelCauseSet h .torn ||
      ((s.channels.get h).enabled && decide (0 < (s.channels.get h).offset) && cause)) := by
  unfold clearNotice
  dsimp only
  split
  · rename_i c
    rw [raiseChannel_sets, c, Bool.or_true]
  · rename_i c
    rw [Bool.eq_false_iff.mpr c, Bool.or_false]
    rfl

/-- The channel's half is all that a clear notice reaches. -/
theorem clearNotice_half (h k : Half) (cause : Bool) (s : State) (ne : k ≠ h) :
    (clearNotice h cause s).channels.get k = s.channels.get k ∧
    (clearNotice h cause s).irq.channel.get k = s.irq.channel.get k := by
  unfold clearNotice
  dsimp only
  split <;> simp [PerHalf.get_set_other _ _ _ _ ne, InterruptUnit.setChannelFlag]

end Sys2Proof.Machine
end

