-- ==== Sys2Proof/Laws/Commands.lean ====
section
/-! SUPPORT. Laws/Commands: how a command completes: the slot after it, and the checks before its block acts (R186, R187). -/
namespace Sys2Proof.Machine

/-- A command out of reset completes with the state its block leaves, the slot showing the code and the result (R186). -/
theorem command_next {s t : State} {h : Half} {code result : Word} {act : Slot → State → ResultCode × State} {c : ResultCode}
    (running : s.inReset = false) (acted : act (s.slots.get h) s = (c, t)) (word : resultWord c code = result) :
    (Host.Outcome.next (live s (takeCommand h code act s)) : Host.Outcome State Fault Refusal) =
      .next (t.setSlot h ((s.slots.get h).answered code result)) := by
  rw [live_running _ running, takeCommand]
  rw [acted, word]

/-- A control-half command from the control half is acted on. -/
@[simp] theorem controlOnly_control (s : State) (r : ResultCode × State) : controlOnly .control s r = r := rfl

/-- A control-half command from the archive half is NOT PERMITTED (R187). -/
@[simp] theorem controlOnly_archive (s : State) (r : ResultCode × State) : controlOnly .archive s r = (.notPermitted, s) := rfl

/-- An operand in range is the number it spells. -/
theorem operand_inRange {n : Nat} {w : Word} (i : Fin n) (h : w.toNat = i.val) : operand n w = some i := by
  simp [operand, h]

/-- An operand out of range is none. -/
theorem operand_outOfRange {n : Nat} {w : Word} (h : n ≤ w.toNat) : operand n w = none := by
  simp [operand, Nat.not_lt.mpr h]

/-- A level operand in range is the level of its code. -/
theorem levelOperand_inRange {w : Word} (v : Level) (h : w.toNat = v.code) : levelOperand w = some v := by
  unfold levelOperand
  cases v
  · rw [if_pos (BitVec.eq_of_toNat_eq h)]
  · rw [if_neg, if_pos (BitVec.eq_of_toNat_eq h)]
    intro e
    rw [e] at h
    exact absurd h (by decide)

/-- A level operand out of range is none. -/
theorem levelOperand_outOfRange {w : Word} (h : 2 ≤ w.toNat) : levelOperand w = none := by
  unfold levelOperand
  rw [if_neg, if_neg]
  · intro e; rw [e] at h; exact absurd h (by decide)
  · intro e; rw [e] at h; exact absurd h (by decide)

@[simp] theorem withOperand_some {α : Type} (x : α) (s : State) (act : α → ResultCode × State) :
    withOperand (some x) s act = act x := rfl

/-- An operand out of range is a BAD OPERAND (R187). -/
@[simp] theorem withOperand_none {α : Type} (s : State) (act : α → ResultCode × State) :
    withOperand none s act = (.badOperand, s) := rfl

end Sys2Proof.Machine
end

