-- ==== Sys2Proof/Laws/Correlation.lean ====
section
/-! SUPPORT. Laws/Correlation: what the engine's searches find, which timers are due, and which records a channel pins. -/
namespace Sys2Proof.Machine

/-- A search over the four step positions finds the lowest that satisfies P. -/
theorem find_position (P : Fin 4 → Bool) (p : Fin 4) :
    (List.finRange 4).find? P = some p ↔ P p = true ∧ ∀ q, q < p → P q = false := by
  have positions : List.finRange 4 = [0, 1, 2, 3] := by decide
  rw [positions]
  rcases h0 : P 0 with _ | _ <;> rcases h1 : P 1 with _ | _ <;> rcases h2 : P 2 with _ | _ <;> rcases h3 : P 3 with _ | _ <;>
    fin_cases p <;> simp [List.find?, h0, h1, h2, h3] <;>
    first
      | (intro q lt; fin_cases q <;> simp_all)
      | exact ⟨0, by simp, h0⟩
      | exact ⟨1, by simp, h1⟩
      | exact ⟨2, by simp, h2⟩

/-- A position names an event when it is a step of the rule with the event's line and direction. -/
theorem stepNames_iff (r : CorrRule) (ev : CorrEvent) (p : Fin 4) :
    r.stepNames ev p = true ↔ p.val < r.stepCount ∧ r.steps.get p = ⟨ev.line, ev.direction⟩ := by
  unfold CorrRule.stepNames RuleStep.names
  cases h : r.steps.get p
  simp

/-- The first context that accepts an event, given that those before it decline it. -/
theorem firstAccepting_some (r : CorrRule) (ev : CorrEvent) (p : Fin 4) :
    ∀ (cs : List CorrContext) (i n : Nat) (c : CorrContext), cs[i]? = some c → r.accepts ev c = some p →
      (∀ j b, j < i → cs[j]? = some b → r.accepts ev b = none) → firstAccepting r ev n cs = some (n + i, p)
  | [], i, n, c, h, _, _ => by simp at h
  | a :: cs, 0, n, c, h, takes, _ => by
    cases h
    simp [firstAccepting, takes]
  | a :: cs, i + 1, n, c, h, takes, before => by
    have declines := before 0 a (by omega) rfl
    simp only [firstAccepting, declines]
    rw [firstAccepting_some r ev p cs i (n + 1) c (by simpa using h) takes
      fun j b lt at_ => before (j + 1) b (by omega) (by simpa using at_)]
    congr 2
    omega

/-- No context accepts an event that each of them declines. -/
theorem firstAccepting_none (r : CorrRule) (ev : CorrEvent) :
    ∀ (cs : List CorrContext) (n : Nat), (∀ c ∈ cs, r.accepts ev c = none) → firstAccepting r ev n cs = none
  | [], _, _ => rfl
  | a :: cs, n, h => by
    simp [firstAccepting, h a (by simp), firstAccepting_none r ev cs (n + 1) fun c mem => h c (by simp [mem])]

/-- The steps held are those of the four positions, in order. -/
theorem heldSteps_eq (c : CorrContext) :
    c.heldSteps = [c.steps.get 0, c.steps.get 1, c.steps.get 2, c.steps.get 3].filterMap id := by
  unfold CorrContext.heldSteps
  congr 1
  apply List.ext_getElem
  · simp
  · intro n lt _
    have : n = 0 ∨ n = 1 ∨ n = 2 ∨ n = 3 := by simp at lt; omega
    rcases this with rfl | rfl | rfl | rfl <;> simp [Vector.get]

/-- An order chosen freely is an order of the same items. -/
theorem arrange_perm {α : Type} (choose : Nat → Nat) : ∀ (fuel : Nat) (l : List α), (arrange choose fuel l).Perm l
  | 0, _ => .refl _
  | _ + 1, [] => .refl _
  | _ + 1, [_] => .refl _
  | fuel + 1, x :: y :: l => by
    simp only [arrange]
    generalize choose fuel % (x :: y :: l).length = k
    generalize x :: y :: l = whole
    refine ((arrange_perm choose fuel _).append_left _).trans ?_
    have parts : whole.take k ++ ((whole.drop k).take 1 ++ whole.drop (k + 1)) = whole := by
      rw [← List.drop_drop, List.take_append_drop, List.take_append_drop]
    rw [← List.append_assoc]
    refine (List.perm_append_comm.append_right _).trans ?_
    rw [List.append_assoc, parts]

/-- A timer's expiry is due when the timer runs and its moment has come. -/
theorem mem_dueOf (s : State) (timer : Option Nat) (c d : Instr) :
    c ∈ dueOf s timer d ↔ c = d ∧ ∃ m, timer = some m ∧ m ≤ s.time.elapsed := by
  unfold dueOf State.timerDue
  cases timer <;> simp [and_comm]

/-- A channel pins one of the n oldest records when it is enabled with its cursor on one at an offset above 0. -/
theorem pinsWithin_iff (c : Channel) (held n : Nat) :
    c.pinsWithin held n = true ↔ c.enabled = true ∧ 0 < c.offset ∧ c.unread ≠ 0 ∧ held - c.unread < n := by
  unfold Channel.pinsWithin Channel.pinned Channel.place
  by_cases on : c.enabled <;> by_cases partway : 0 < c.offset <;> by_cases atEnd : c.unread = 0 <;>
    simp [on, partway, atEnd]

end Sys2Proof.Machine
end

