-- ==== Sys2Proof/Laws/Events.lean ====
section
/-! SUPPORT. Laws/Events: what the handling of an event leaves alone, one lemma for each operation of the groups, the engine, the Alarm
List, the outputs and the classifier. -/
namespace Sys2Proof.Machine

/-- t comes from s by handling events: `OnlyEvents`, no line changed, the store still in order, under HOLD no record removed,
and no system cause cleared (R170). -/
structure Handled (s t : State) : Prop where
  events : OnlyEvents s t
  lines : t.lines = s.lines
  reserve : s.store.keepsReserve → t.store.keepsReserve
  accounts : s.store.accounts → t.store.accounts
  grows : s.store.policy = .hold → Grows s t
  causes : ∀ c, s.causeSet c = true → t.causeSet c = true

theorem OnlyEvents.refl (s : State) : OnlyEvents s s := by constructor <;> intros <;> rfl

theorem OnlyEvents.trans {s t u : State} (a : OnlyEvents s t) (b : OnlyEvents t u) : OnlyEvents s u where
  lineTable := b.lineTable.trans a.lineTable
  profiles := b.profiles.trans a.profiles
  time := b.time.trans a.time
  slots := b.slots.trans a.slots
  ports := b.ports.trans a.ports
  tableStatus := b.tableStatus.trans a.tableStatus
  inReset := b.inReset.trans a.inReset
  clockRunning := b.clockRunning.trans a.clockRunning
  lastRead := b.lastRead.trans a.lastRead
  pending := b.pending.trans a.pending
  windows g := (b.windows g).trans (a.windows g)
  ruleTable r := by rw [b.ruleTable r, a.ruleTable r]
  escalation := b.escalation.trans a.escalation
  ackRecording := b.ackRecording.trans a.ackRecording
  outputTable q := by rw [b.outputTable q, a.outputTable q]
  data := b.data.trans a.data
  flash := b.flash.trans a.flash
  policy := b.policy.trans a.policy
  enabled h := (b.enabled h).trans (a.enabled h)
  threshold h := (b.threshold h).trans (a.threshold h)
  holdoff h := (b.holdoff h).trans (a.holdoff h)
  torn h := (b.torn h).trans (a.torn h)
  emptyRead h := (b.emptyRead h).trans (a.emptyRead h)
  routes := b.routes.trans a.routes
  enables h := (b.enables h).trans (a.enables h)

theorem OnlyReports.toEvents {s t : State} (a : OnlyReports s t) : OnlyEvents s t where
  lineTable := a.lineTable
  profiles := a.profiles
  time := a.time
  slots := a.slots
  ports := a.ports
  tableStatus := a.tableStatus
  inReset := a.inReset
  clockRunning := a.clockRunning
  lastRead := a.lastRead
  pending := a.pending
  windows g := by rw [a.groups]
  ruleTable r := by rw [a.rules]
  escalation := by rw [a.alarms]
  ackRecording := by rw [a.alarms]
  outputTable q := by rw [a.outputs]
  data := by rw [a.outputs]
  flash := by rw [a.outputs]
  policy := a.policy
  enabled := a.enabled
  threshold := a.threshold
  holdoff := a.holdoff
  torn := a.torn
  emptyRead := a.emptyRead
  routes := a.routes
  enables := a.enables

theorem Handled.refl (s : State) : Handled s s := ⟨OnlyEvents.refl s, rfl, id, id, fun _ => Grows.refl s, fun _ => id⟩

theorem Handled.trans {s t u : State} (a : Handled s t) (b : Handled t u) : Handled s u :=
  ⟨a.events.trans b.events, b.lines.trans a.lines, fun h => b.reserve (a.reserve h), fun h => b.accounts (a.accounts h),
    fun h => (a.grows h).trans (b.grows (by rw [a.events.policy, h])),
    fun c h => b.causes c (a.causes c h)⟩

/-! ## Small updates -/

theorem report_handled (stamp : Stamp) (test : Bool) (body : Body) (s : State) (kind : body.kind ≠ 14) :
    Handled s (report stamp test body s) :=
  have only := report_onlyReports stamp test body s
  ⟨only.toEvents, only.lines, report_keepsReserve _ _ _ _, report_accounts _ _ _ _ kind,
    append_grows _ _ _ _, fun c h => by
      unfold State.causeSet at *
      rwa [only.system]⟩

theorem append_handled (stamp : Stamp) (test : Bool) (body : Body) (s : State) (kind : body.kind ≠ 14) :
    Handled s (append stamp test body s).2 := report_handled stamp test body s kind

/-- A raised cause stands set. -/
theorem raise_sets (c : SystemCause) (s : State) : (raise c s).causeSet c = true := get_put_same _ _ _

/-- Raising a cause clears none. -/
theorem raise_keeps (c d : SystemCause) (s : State) (h : s.causeSet d = true) : (raise c s).causeSet d = true := by
  by_cases e : d.idx = c.idx
  · show (put s.irq.system c.idx true).get d.idx = true
    rw [e]
    exact get_put_same _ _ _
  · exact (get_put_other _ _ _ _ e).trans h

theorem raise_handled (c : SystemCause) (s : State) : Handled s (raise c s) :=
  ⟨by constructor <;> intros <;> rfl, rfl, id, id, fun _ => ⟨[], by simp⟩, fun d => raise_keeps c d s⟩

theorem setGroup_handled (s : State) (g : GroupId) (x : FirstOutGroup) (same : x.window = (s.groups.get g).window) :
    Handled s (s.setGroup g x) := by
  refine ⟨?_, rfl, id, id, fun _ => ⟨[], by simp⟩, fun _ => id⟩
  constructor <;> (try (intros; rfl))
  intro k
  by_cases e : k = g
  · subst e; simpa using same
  · simp [get_put_other _ _ _ _ e]

theorem setRule_handled (s : State) (r : RuleId) (x : CorrRule)
    (same : x = { s.rules.get r with
      matchCount := x.matchCount, lapseCount := x.lapseCount, missedStarts := x.missedStarts, contexts := x.contexts }) :
    Handled s (s.setRule r x) := by
  refine ⟨?_, rfl, id, id, fun _ => ⟨[], by simp⟩, fun _ => id⟩
  constructor <;> (try (intros; rfl))
  intro k
  by_cases e : k = r
  · subst e; simpa using same
  · simp [get_put_other _ _ _ _ e]

theorem setOutput_handled (s : State) (q : OutputId) (x : OutputLine)
    (same : x = { s.outputs.lines.get q with
      phase := x.phase, timer := x.timer, queued := x.queued, dropped := x.dropped }) :
    Handled s (s.setOutput q x) := by
  refine ⟨?_, rfl, id, id, fun _ => ⟨[], by simp⟩, fun _ => id⟩
  constructor <;> (try (intros; rfl))
  intro k
  by_cases e : k = q
  · subst e; simpa using same
  · simp [get_put_other _ _ _ _ e]

theorem setEntries_handled (s : State) (es : List AlarmEntry) : Handled s (s.setEntries es) :=
  ⟨by constructor <;> intros <;> rfl, rfl, id, id, fun _ => ⟨[], by simp⟩, fun _ => id⟩

theorem setExhausted_handled (s : State) (b : Bool) : Handled s { s with exhausted := b } :=
  ⟨by constructor <;> intros <;> rfl, rfl, id, id, fun _ => ⟨[], by simp⟩, fun _ => id⟩

theorem setFreeIndex_handled (s : State) (n : Nat) : Handled s { s with freeIndex := n } :=
  ⟨by constructor <;> intros <;> rfl, rfl, id, id, fun _ => ⟨[], by simp⟩, fun _ => id⟩

theorem handSummaries_handled (s : State) : Handled s (handSummaries s) :=
  ⟨by constructor <;> intros <;> rfl, rfl, id, id, fun _ => ⟨[], (List.append_nil _).symm⟩, fun _ => id⟩

/-! ## Outputs -/

theorem OutputLine.request_config (o : OutputLine) (elapsed : Nat) :
    o.request elapsed = { o with
      phase := (o.request elapsed).phase, timer := (o.request elapsed).timer
      queued := (o.request elapsed).queued, dropped := (o.request elapsed).dropped } := by
  unfold OutputLine.request
  repeat' split
  all_goals rfl

theorem requestPulse_handled (q : OutputId) (s : State) : Handled s (requestPulse q s) := by
  refine setOutput_handled _ _ _ ?_
  split
  · exact OutputLine.request_config _ _
  · rfl

theorem requestAction_handled (a : Option OutputId) (s : State) : Handled s (requestAction a s) := by
  unfold requestAction
  split
  · exact Handled.refl s
  · exact requestPulse_handled _ s

/-! ## Groups -/

theorem resolveGroup_handled (g : GroupId) (d : Bool) (s : State) : Handled s (resolveGroup g d s) := by
  unfold resolveGroup
  dsimp only
  split
  · exact Handled.refl s
  · refine Handled.trans (Handled.trans ?_ (report_handled _ _ _ _ (by simp [Body.kind]))) (raise_handled _ _)
    exact setGroup_handled _ _ _ rfl

theorem groupDeparture_handled (g : GroupId) (c : Candidate) (s : State) : Handled s (groupDeparture g c s) := by
  unfold groupDeparture
  dsimp only
  split
  · split
    · refine Handled.trans ?_ (resolveGroup_handled _ _ _)
      exact setGroup_handled _ _ _ rfl
    · exact setGroup_handled _ _ _ rfl
  · split
    · exact Handled.refl s
    · exact setGroup_handled _ _ _ rfl
  · exact setGroup_handled _ _ _ rfl

theorem clearGroup_handled (g : GroupId) (s : State) : Handled s (clearGroup g s) := by
  unfold clearGroup
  refine Handled.trans (report_handled _ _ _ _ (by simp [Body.kind])) (setGroup_handled _ _ _ ?_)
  exact congrArg (fun v : Vector FirstOutGroup 8 => (v.get g).window) (report_onlyReports _ _ _ _).groups.symm

/-! ## The engine -/

theorem freeContext_handled (r : RuleId) (k : Nat) (s : State) : Handled s (freeContext r k s) := by
  unfold freeContext
  refine Handled.trans ?_ (setExhausted_handled _ false)
  exact setRule_handled _ _ _ rfl

theorem lapse_handled (reason : LapseReason) (r : RuleId) (k : Nat) (s : State) : Handled s (lapse reason r k s) := by
  unfold lapse
  split
  · exact Handled.refl s
  · rename_i c _
    have recorded : Handled s (if reason ≠ .window ∨ (s.rules.get r).recordLapses = true then
        report c.start c.anyTest (.lapsed r reason c.positions c.refs) s else s) := by
      split
      · exact report_handled _ _ _ _ (by simp [Body.kind])
      · exact Handled.refl s
    dsimp only
    refine Handled.trans recorded (Handled.trans ?_ (freeContext_handled _ _ _))
    exact setRule_handled _ _ _ rfl

theorem lapseOldest_handled (reason : LapseReason) (r : RuleId) (n : Nat) (s : State) :
    Handled s (lapseOldest reason r n s) := by
  induction n generalizing s with
  | zero => exact Handled.refl s
  | succ n ih => exact (lapse_handled reason r 0 s).trans (ih _)

theorem complete_handled (r : RuleId) (k : Nat) (c : CorrContext) (stamp : Stamp) (s : State) :
    Handled s (complete r k c stamp s) := by
  unfold complete
  dsimp only
  refine Handled.trans ?_ (freeContext_handled _ _ _)
  refine Handled.trans ?_ (requestAction_handled _ _)
  refine Handled.trans (report_handled stamp c.anyTest (.matched r (s.rules.get r).stepCount c.refs) s (by simp [Body.kind])) ?_
  exact setRule_handled _ _ _ rfl

theorem missStart_handled (r : RuleId) (s : State) : Handled s (missStart r s) := setRule_handled _ _ _ rfl

theorem startContext_handled (r : RuleId) (ev : CorrEvent) (p : Fin 4) (s : State) :
    Handled s (startContext r ev p s) := by
  unfold startContext
  dsimp only
  split
  · exact missStart_handled r s
  · split
    · split
      · exact missStart_handled r s
      · refine Handled.trans (Handled.trans (missStart_handled r s) ?_) (raise_handled _ _)
        exact setExhausted_handled _ true
    · exact setRule_handled _ _ _ rfl

theorem visitRule_handled (ev : CorrEvent) (r : RuleId) (s : State) : Handled s (visitRule ev r s).1 := by
  unfold visitRule
  dsimp only
  split
  · exact Handled.refl s
  · split
    · split
      · exact Handled.refl s
      · split
        · refine Handled.trans ?_ (complete_handled _ _ _ _ _)
          exact setRule_handled _ _ _ rfl
        · exact setRule_handled _ _ _ rfl
    · split
      · exact Handled.refl s
      · exact startContext_handled _ _ _ _

theorem visitRules_handled (ev : CorrEvent) (rs : List RuleId) (s : State) : Handled s (visitRules ev rs s).1 := by
  induction rs generalizing s with
  | nil => exact Handled.refl s
  | cons r rs ih => exact (visitRule_handled ev r s).trans (ih _)

theorem lapseAll_handled (items : List (RuleId × Nat)) (s : State) : Handled s (lapseAll items s) := by
  induction items generalizing s with
  | nil => exact Handled.refl s
  | cons item rest ih => exact (lapse_handled .window item.1 item.2 s).trans (ih _)

theorem correlate_handled (ev : CorrEvent) (s : State) : Handled s (correlate ev s) := by
  unfold correlate
  dsimp only
  refine Handled.trans (visitRules_handled ev (List.finRange 16) s) (Handled.trans ?_ (lapseAll_handled _ _))
  exact setFreeIndex_handled _ _

/-! ## The Alarm List -/

theorem createEntry_handled (ev : AlarmEvent) (chatter : Bool) (s : State) : Handled s (createEntry ev chatter s) := by
  unfold createEntry
  refine Handled.trans (Handled.trans ?_ (raise_handled .alarmNew _)) (handSummaries_handled _)
  exact setEntries_handled _ _

theorem setEntries_handed (s : State) (es : List AlarmEntry) : Handled s (handSummaries (s.setEntries es)) :=
  (setEntries_handled s es).trans (handSummaries_handled _)

theorem alarmDeparture_handled (ev : AlarmEvent) (s : State) : Handled s (alarmDeparture ev s) := by
  unfold alarmDeparture
  split
  · exact createEntry_handled _ _ _
  · split
    · exact setEntries_handed _ _
    · exact Handled.refl s
    · exact Handled.refl s

theorem alarmReturn_handled (l : LineId) (s : State) : Handled s (alarmReturn l s) := by
  unfold alarmReturn
  split
  · exact Handled.refl s
  · split
    · exact setEntries_handed _ _
    · exact setEntries_handed _ _
    · exact Handled.refl s

theorem alarmChatterOn_handled (ev : AlarmEvent) (s : State) : Handled s (alarmChatterOn ev s) := by
  unfold alarmChatterOn
  split
  · exact createEntry_handled _ _ _
  · exact setEntries_handled _ _

theorem alarmChatterOff_handled (ev : AlarmEvent) (b : Bool) (s : State) : Handled s (alarmChatterOff ev b s) := by
  unfold alarmChatterOff
  dsimp only
  split
  · refine Handled.trans ?_ (alarmReturn_handled _ _)
    exact setEntries_handled _ _
  · refine Handled.trans ?_ (alarmDeparture_handled _ _)
    exact setEntries_handled _ _

theorem alarmWithdraw_handled (l : LineId) (s : State) : Handled s (alarmWithdraw l s) := by
  unfold alarmWithdraw
  split
  · exact Handled.refl s
  · exact setEntries_handed _ _

theorem ackRecord_handled (l : LineId) (r : AckResult) (test : Bool) (tag : Word) (side : Half) (s : State) :
    Handled s (ackRecord l r test tag side s) := by
  unfold ackRecord
  split
  · exact report_handled _ _ _ _ (by simp [Body.kind])
  · exact Handled.refl s

theorem ackEntry_handled (tag : Word) (side : Half) (l : LineId) (s : State) : Handled s (ackEntry tag side l s).2 := by
  unfold ackEntry
  split
  · exact Handled.refl s
  · split
    · exact (setEntries_handled s _).trans (ackRecord_handled _ _ _ _ _ _)
    · exact (setEntries_handled s _).trans (ackRecord_handled _ _ _ _ _ _)
    · exact Handled.refl s

theorem ackEntries_handled (tag : Word) (side : Half) (ls : List LineId) (r : Bool × State) :
    Handled r.2 (ackEntries tag side ls r).2 := by
  induction ls generalizing r with
  | nil => exact Handled.refl _
  | cons l ls ih =>
    exact (ackEntry_handled tag side l r.2).trans (ih (r.1 || (ackEntry tag side l r.2).1, (ackEntry tag side l r.2).2))

theorem silenceEntries_handled (side : Half) (s : State) : Handled s (silenceEntries side s) :=
  (setEntries_handed s _).trans (report_handled _ _ _ _ (by simp [Body.kind]))

theorem escalate_handled (e : AlarmEntry) (s : State) : Handled s (escalate e s) := by
  unfold escalate
  dsimp only
  refine Handled.trans ?_ (setEntries_handled _ _)
  refine Handled.trans ?_ (requestAction_handled _ _)
  refine Handled.trans ?_ (raise_handled _ _)
  refine Handled.trans ?_ (report_handled _ _ _ _ (by simp [Body.kind]))
  exact setEntries_handed _ _

/-! ## The classifier -/

theorem recordChange_handled (wanted : Bool) (l : LineId) (d : Direction) (stamp : Stamp) (test : Bool) (s : State) :
    Handled s (recordChange wanted l d stamp test s).2 := by
  unfold recordChange
  split
  · exact append_handled _ _ _ _ (by simp [lineBody, Body.kind])
  · exact Handled.refl s

theorem classifyDepart_handled (l : LineId) (stamp : Stamp) (test : Bool) (s : State) :
    Handled s (classifyDepart l stamp test s) := by
  unfold classifyDepart
  dsimp only
  refine Handled.trans ?_ (requestAction_handled _ _)
  refine Handled.trans (recordChange_handled (s.lineTable.get l).recordDepartures l .depart stamp test s) ?_
  have grouped : ∀ t : State, Handled t (match (s.lineTable.get l).group with
      | none => t
      | some g => groupDeparture g ⟨l, stamp, test, (recordChange (s.lineTable.get l).recordDepartures l .depart stamp test s).1⟩ t) := by
    intro t
    split
    · exact Handled.refl t
    · exact groupDeparture_handled _ _ _
  split
  · exact (grouped _).trans (correlate_handled _ _)
  · exact ((grouped _).trans (correlate_handled _ _)).trans (alarmDeparture_handled _ _)

theorem classifyReturn_handled (l : LineId) (stamp : Stamp) (test : Bool) (s : State) :
    Handled s (classifyReturn l stamp test s) := by
  unfold classifyReturn
  dsimp only
  refine Handled.trans ?_ (requestAction_handled _ _)
  refine Handled.trans (recordChange_handled (s.lineTable.get l).recordReturns l .giveBack stamp test s) ?_
  split
  · exact correlate_handled _ _
  · exact (correlate_handled _ _).trans (alarmReturn_handled _ _)

theorem classifyInitial_handled (l : LineId) (v : Level) (stamp : Stamp) (test : Bool) (s : State) :
    Handled s (classifyInitial l v stamp test s) := by
  unfold classifyInitial
  dsimp only
  refine Handled.trans (append_handled stamp test (.armed l v) s (by simp [Body.kind])) ?_
  split
  · exact Handled.refl _
  · exact alarmDeparture_handled _ _

theorem classifyChatterOn_handled (l : LineId) (v : Level) (stamp : Stamp) (test : Bool) (s : State) :
    Handled s (classifyChatterOn l v stamp test s) := by
  unfold classifyChatterOn
  dsimp only
  refine Handled.trans (append_handled stamp test (.chatterOn l v) s (by simp [Body.kind])) ?_
  refine Handled.trans (raise_handled .chatter _) ?_
  split
  · exact Handled.refl _
  · exact alarmChatterOn_handled _ _

theorem classifyChatterOff_handled (l : LineId) (v : Level) (n : Word) (stamp : Stamp) (test : Bool) (s : State) :
    Handled s (classifyChatterOff l v n stamp test s) := by
  unfold classifyChatterOff
  dsimp only
  refine Handled.trans (append_handled stamp test (.chatterOff l v n) s (by simp [Body.kind])) ?_
  split
  · exact Handled.refl _
  · exact alarmChatterOff_handled _ _ _

theorem classifyDisarmed_handled (l : LineId) (stamp : Stamp) (test : Bool) (s : State) :
    Handled s (classifyDisarmed l stamp test s) := by
  unfold classifyDisarmed
  dsimp only
  refine Handled.trans (report_handled stamp test (.disarmed l) s (by simp [Body.kind])) ?_
  split
  · exact Handled.refl _
  · exact alarmWithdraw_handled _ _

/-! ## The discontinuity notice -/

theorem noticeActions_handled (items : List (GroupId ⊕ RuleId)) (s : State) : Handled s (noticeActions items s) := by
  induction items generalizing s with
  | nil => exact Handled.refl s
  | cons a rest ih =>
    cases a with
    | inl g => exact (resolveGroup_handled g true s).trans (ih _)
    | inr r => exact (lapse_handled .timeStep r 0 s).trans (ih _)

theorem discontinuityNotice_handled (s : State) : Handled s (discontinuityNotice s) := by
  unfold discontinuityNotice
  dsimp only
  refine Handled.trans ?_ (noticeActions_handled _ _)
  exact setFreeIndex_handled _ _

end Sys2Proof.Machine
end

