-- ==== Sys2Proof/Laws/Lines.lean ====
section
/-! SUPPORT. Laws/Lines: what the conditioning of one line leaves alone: every other line, and all that handling an event leaves alone. -/
namespace Sys2Proof.Machine

/-- t comes from s by what line l does: `OnlyEvents`, every other line as it stood, and the store still in order. -/
structure LineHandled (l : LineId) (s t : State) : Prop where
  events : OnlyEvents s t
  others : ∀ k, k ≠ l → t.lines.get k = s.lines.get k
  reserve : s.store.keepsReserve → t.store.keepsReserve
  accounts : s.store.accounts → t.store.accounts
  grows : s.store.policy = .hold → Grows s t
  causes : ∀ c, s.causeSet c = true → t.causeSet c = true

theorem LineHandled.refl (l : LineId) (s : State) : LineHandled l s s := 
  ⟨OnlyEvents.refl s, fun _ _ => rfl, id, id, fun _ => Grows.refl s, fun _ => id⟩

theorem LineHandled.trans {l : LineId} {s t u : State} (a : LineHandled l s t) (b : LineHandled l t u) : LineHandled l s u :=
  ⟨a.events.trans b.events, fun k ne => (b.others k ne).trans (a.others k ne), fun h => b.reserve (a.reserve h),
    fun h => b.accounts (a.accounts h),
    fun h => (a.grows h).trans (b.grows (by rw [a.events.policy, h])),
    fun c h => b.causes c (a.causes c h)⟩

theorem Handled.toLine {s t : State} (a : Handled s t) (l : LineId) : LineHandled l s t :=
  ⟨a.events, fun k _ => by rw [a.lines], a.reserve, a.accounts, a.grows, a.causes⟩

theorem setLine_handled (s : State) (l : LineId) (x : LineState) : LineHandled l s (s.setLine l x) := by
  refine ⟨?_, fun k ne => ?_, id, id, fun _ => ⟨[], by simp⟩, fun _ => id⟩
  · constructor <;> intros <;> rfl
  · simp [get_put_other _ _ _ _ ne]

/-- A step of line l after an update of that line. -/
theorem afterSetLine {s t : State} {l : LineId} {x : LineState} (h : Handled (s.setLine l x) t) : LineHandled l s t :=
  (setLine_handled s l x).trans (h.toLine l)

theorem enterChatter_handled (l : LineId) (edge : Stamp) (s : State) : LineHandled l s (enterChatter l edge s) :=
  afterSetLine (classifyChatterOn_handled _ _ _ _ _)

theorem countTransition_handled (l : LineId) (edge : Stamp) (s : State) : LineHandled l s (countTransition l edge s) := by
  unfold countTransition
  dsimp only
  split
  · exact LineHandled.refl l s
  · split
    · exact enterChatter_handled _ _ _
    · exact setLine_handled _ _ _

theorem qualifySettling_handled (l : LineId) (s : State) : LineHandled l s (qualifySettling l s) :=
  afterSetLine (classifyInitial_handled _ _ _ _ _)

theorem qualifyDeparture_handled (l : LineId) (s : State) : LineHandled l s (qualifyDeparture l s) :=
  (afterSetLine (classifyDepart_handled _ _ _ _)).trans (countTransition_handled _ _ _)

theorem qualifyReturn_handled (l : LineId) (s : State) : LineHandled l s (qualifyReturn l s) :=
  (afterSetLine (classifyReturn_handled _ _ _ _)).trans (countTransition_handled _ _ _)

theorem releaseLine_handled (l : LineId) (s : State) : LineHandled l s (releaseLine l s) :=
  afterSetLine (classifyChatterOff_handled _ _ _ _ _ _)

theorem captureEdge_handled (l : LineId) (c : Cond) (s : State) : LineHandled l s (captureEdge l c s) :=
  setLine_handled _ _ _

theorem takeChange_handled (l : LineId) (s : State) : LineHandled l s (takeChange l s) := by
  unfold takeChange
  split
  · exact LineHandled.refl l s
  · exact setLine_handled _ _ _
  · split
    · exact (captureEdge_handled _ _ _).trans (qualifyDeparture_handled _ _)
    · exact captureEdge_handled _ _ _
  · exact setLine_handled _ _ _
  · split
    · exact (captureEdge_handled _ _ _).trans (qualifyReturn_handled _ _)
    · exact captureEdge_handled _ _ _
  · exact setLine_handled _ _ _
  · exact setLine_handled _ _ _

theorem observeLevel_handled (l : LineId) (s : State) : LineHandled l s (observeLevel l s) := by
  unfold observeLevel
  dsimp only
  split
  · exact LineHandled.refl l s
  · exact (setLine_handled _ _ _).trans (takeChange_handled _ _)

theorem injectLevel_handled (l : LineId) (v : Option Level) (s : State) : LineHandled l s (injectLevel l v s) :=
  (setLine_handled _ _ _).trans (observeLevel_handled _ _)

theorem armDisarmed_handled (l : LineId) (s : State) : LineHandled l s (armDisarmed l s) := by
  unfold armDisarmed
  dsimp only
  split
  · exact (setLine_handled _ _ _).trans (qualifySettling_handled _ _)
  · exact setLine_handled _ _ _

theorem disarmArmed_handled (l : LineId) (s : State) : LineHandled l s (disarmArmed l s) :=
  ((classifyDisarmed_handled _ _ _ _).toLine l).trans (setLine_handled _ _ _)

end Sys2Proof.Machine
end

