-- ==== Sys2Proof/Laws/Operands.lean ====
section
/-! SUPPORT. Laws/Operands: bits of words and masks (R2, R201), fields of packed words, and how wide each code is. -/
namespace Sys2Proof.Machine

/-- A one-bit field is the bit. -/
theorem bit_eq_getLsbD (w : Word) (i : Nat) : bit w i = w.getLsbD i := by
  unfold bit field
  rw [BitVec.getLsbD, Nat.testBit_eq_decide_div_mod_eq, Nat.pow_one]

/-- An entry of a table given by a function. -/
@[simp] theorem get_ofFn {α : Type} {n : Nat} (f : Fin n → α) (i : Fin n) : (Vector.ofFn f).get i = f i := by
  show (Vector.ofFn f)[i.val] = f i
  simp

/-- An entry of a mapped table. -/
@[simp] theorem get_map {α β : Type} {n : Nat} (f : α → β) (v : Vector α n) (i : Fin n) : (v.map f).get i = f (v.get i) := by
  show (v.map f)[i.val] = f v[i.val]
  simp

/-- A field of n bits is below 2^n. -/
theorem field_lt (w : Word) (lo n : Nat) : field w lo n < 2 ^ n := Nat.mod_lt _ (Nat.two_pow_pos n)

/-- The bits of the number a list of bits spells. -/
theorem bitsToNat_testBit (bs : List Bool) (i : Nat) : (bitsToNat bs).testBit i = bs.getD i false := by
  induction bs generalizing i with
  | nil => simp [bitsToNat]
  | cons b bs ih =>
    cases i with
    | zero =>
      cases b <;> simp [bitsToNat, Nat.testBit_zero]
    | succ i =>
      have half : (b.toNat + 2 * bitsToNat bs) / 2 = bitsToNat bs := by cases b <;> (simp; try omega)
      rw [bitsToNat, Nat.testBit_succ, half, ih]
      rfl

/-- Position n of a mask says p of line Fn (R2). -/
theorem maskOf_getLsbD (p : LineId → Bool) (l : LineId) : (maskOf p).getLsbD l.val = p l := by
  unfold maskOf
  rw [BitVec.getLsbD_ofNat, bitsToNat_testBit]
  simp

/-- The two words of a mask hold its positions, F0 to F15 in the first (R201). -/
theorem extractLsb'_getLsbD {n : Nat} (m : BitVec n) (start i : Nat) (h : i < 16) :
    (m.extractLsb' start 16).getLsbD i = m.getLsbD (start + i) := by simp [h]

/-! ## Packed words -/

/-- A number below 65536 is the value of its word. -/
theorem toWord_toNat {n : Nat} (h : n < 65536) : (toWord n).toNat = n := by
  rw [toWord, BitVec.toNat_ofNat]
  exact Nat.mod_eq_of_lt h

/-- A bit of a word, from the one-bit field of its value. -/
theorem getLsbD_of_field {w : Word} {i : Nat} {b : Bool} (h : w.toNat / 2 ^ i % 2 = b.toNat) : w.getLsbD i = b := by
  rw [BitVec.getLsbD, Nat.testBit_eq_decide_div_mod_eq, h]
  cases b <;> rfl

/-- A table of four, written out. -/
theorem toList_four {α : Type} (v : Vector α 4) : v.toList = [v.get 0, v.get 1, v.get 2, v.get 3] := by
  apply List.ext_getElem
  · simp
  · intro i h1 h2
    simp at h1
    match i, h1 with
    | 0, _ => rfl
    | 1, _ => rfl
    | 2, _ => rfl
    | 3, _ => rfl

/-- Four bits of a group or an output: its number, or 15. -/
theorem optionCode_eq (o : Option (Fin 8)) : optionCode o = (o.map Fin.val).getD 15 := by cases o <;> rfl

/-- A group or an output takes four bits. -/
theorem optionCode_lt (o : Option (Fin 8)) : optionCode o < 16 := by
  cases o with
  | none => decide
  | some x => exact Nat.lt_trans x.isLt (by decide)

/-- How many codes each named value has. -/
theorem Cond.code_lt (x : Cond) : x.code < 7 := by cases x <;> decide
theorem Direction.code_lt (x : Direction) : x.code < 2 := by cases x <;> decide
theorem Quality.code_lt (x : Quality) : x.code < 4 := by cases x <;> decide
theorem AckMode.code_lt (x : AckMode) : x.code < 3 := by cases x <;> decide
theorem GroupPhase.code_lt (x : GroupPhase) : x.code < 3 := by cases x <;> decide
theorem AlarmPhase.code_lt (x : AlarmPhase) : x.code < 3 := by cases x <;> decide
theorem Lamp.code_lt (x : Lamp) : x.code < 4 := by cases x <;> decide
theorem LapseReason.code_lt (x : LapseReason) : x.code < 3 := by cases x <;> decide
theorem AckResult.code_lt (x : AckResult) : x.code < 3 := by cases x <;> decide
theorem TimeKind.code_lt (x : TimeKind) : x.code < 3 := by cases x <;> decide
theorem OutputMode.code_lt (x : OutputMode) : x.code < 4 := by cases x <;> decide
theorem Drive.code_lt (x : Drive) : x.code < 3 := by cases x <;> decide
theorem Polarity.code_lt (x : Polarity) : x.code < 2 := by cases x <;> decide
theorem Retrigger.code_lt (x : Retrigger) : x.code < 2 := by cases x <;> decide
theorem PulsePhase.code_lt (x : PulsePhase) : x.code < 3 := by cases x <;> decide
theorem Route.code_lt (x : Route) : x.code < 4 := by cases x <;> decide
theorem Policy.code_lt (x : Policy) : x.code < 2 := by cases x <;> decide

end Sys2Proof.Machine

namespace Sys2Proof

/-- A level takes one bit, a side two. -/
theorem Level.code_lt (x : Level) : x.code < 2 := by cases x <;> decide
theorem Half.code_lt (x : Half) : x.code < 3 := by cases x <;> decide

end Sys2Proof
end

