-- ==== Sys2Proof/Laws/Time.lean ====
section
/-! SUPPORT. Laws/Time: what a quality change does to the Time Base, and what it leaves alone (R33). -/
namespace Sys2Proof.Machine

/-- A quality that stands is no change (R33). -/
theorem changeQuality_same {q : Quality} {s : State} (h : s.time.quality = q) : changeQuality q s = s := by
  simp [changeQuality, h]

/-- After a quality change the Time Base holds the new quality, and all else it held. -/
theorem changeQuality_time (q : Quality) (s : State) : (changeQuality q s).time = { s.time with quality := q } := by
  unfold changeQuality
  split
  · rename_i h
    rw [← h]
  · rw [raise_time, (report_onlyReports _ _ _ _).time]

/-- A quality change leaves the lines alone. -/
theorem changeQuality_lines (q : Quality) (s : State) : (changeQuality q s).lines = s.lines := by
  unfold changeQuality
  split
  · rfl
  · rw [raise_lines, (report_onlyReports _ _ _ _).lines]

/-- A change of quality sets TIME QUALITY (R33). -/
theorem changeQuality_cause {q : Quality} {s : State} (h : s.time.quality ≠ q) :
    (changeQuality q s).causeSet .timeQuality = true := by
  unfold changeQuality
  rw [if_neg h]
  exact raise_sets _ _

/-- A quality change keeps the store in order. -/
theorem changeQuality_store (q : Quality) (s : State) :
    (s.store.keepsReserve → (changeQuality q s).store.keepsReserve) ∧
    (s.store.accounts → (changeQuality q s).store.accounts) := by
  unfold changeQuality
  split
  · exact ⟨id, id⟩
  · have kept := report_handled ⟨s.time.counter, q⟩ false (.time .quality s.time.quality q 0)
      { s with time := { s.time with quality := q } } (by simp [Body.kind])
    exact ⟨kept.reserve, kept.accounts⟩

end Sys2Proof.Machine
end

