-- ==== Sys2Proof/Laws/Window.lean ====
section
/-! SUPPORT. Laws/Window: what the words of the register window do not depend on, and which entry or page a table word is of. -/
namespace Sys2Proof.Machine

/-- No word but the data words of the ports depends on the lines, CLK, the last value read, the free choices or the queue. -/
theorem readWord_lines (s : State) (lines : Vector LineState 32) (clock : Bool) (last : Word) (index : Nat)
    (queue : List Instr) (w : WordId) (h : w.toNat % 32 ≠ 7) :
    ({ s with lines := lines, clockRunning := clock, lastRead := last, freeIndex := index, pending := queue } : State).readWord
      w = s.readWord w := by
  unfold State.readWord
  dsimp only
  split <;> first | rfl | (exfalso; omega)

/-! ## The entry a table word is of (Table 42) -/

/-- An index in range is the entry's number. -/
theorem ofNat_val {n : Nat} [NeZero n] (i : Fin n) : Fin.ofNat n i.val = i := Fin.ext (Nat.mod_eq_of_lt i.isLt)

theorem tableWord_line (s : State) (l : LineId) (n : Nat) : s.tableWord ⟨0, l.val, n⟩ = s.lineWord l n := by
  show s.lineWord (Fin.ofNat 32 l.val) n = _
  rw [ofNat_val]

theorem tableWord_profile (s : State) (k : Fin 4) (n : Nat) : s.tableWord ⟨1, k.val, n⟩ = (s.profiles.get k).word n := by
  show (s.profiles.get (Fin.ofNat 4 k.val)).word n = _
  rw [ofNat_val]

theorem tableWord_group (s : State) (g : GroupId) (n : Nat) : s.tableWord ⟨2, g.val, n⟩ = (s.groups.get g).word n := by
  show (s.groups.get (Fin.ofNat 8 g.val)).word n = _
  rw [ofNat_val]

theorem tableWord_rule (s : State) (r : RuleId) (n : Nat) : s.tableWord ⟨3, r.val, n⟩ = (s.rules.get r).word n := by
  show (s.rules.get (Fin.ofNat 16 r.val)).word n = _
  rw [ofNat_val]

theorem tableWord_output (s : State) (q : OutputId) (n : Nat) : s.tableWord ⟨4, q.val, n⟩ = s.outputWord q n := by
  show s.outputWord (Fin.ofNat 8 q.val) n = _
  rw [ofNat_val]

theorem tableWord_escalation (s : State) (k : Fin 4) (n : Nat) :
    s.tableWord ⟨5, k.val, n⟩ = (s.alarms.escalation.get k).word n := by
  show (s.alarms.escalation.get (Fin.ofNat 4 k.val)).word n = _
  rw [ofNat_val]

/-! ## Alarm status and masks -/

/-- The entry at place i of a list with one entry for each line is its line's, and stands at place i + 1 (R130, R148). -/
theorem alarmOf_of_place {s : State} {i : Nat} {e : AlarmEntry} (once : (s.alarms.entries.map AlarmEntry.line).Nodup)
    (at_ : s.alarms.entries[i]? = some e) : s.alarmOf e.line = some e ∧ s.alarmPlace e.line = i + 1 := by
  obtain ⟨inside, here⟩ := List.getElem?_eq_some_iff.mp at_
  have before : ∀ j (h : j < s.alarms.entries.length), j < i → (s.alarms.entries[j]).line ≠ e.line := by
    intro j h less
    have apart := List.pairwise_iff_getElem.mp once j i (by simpa using h) (by simpa using inside) less
    simpa [here] using apart
  constructor
  · rw [State.alarmOf, List.find?_eq_some_iff_getElem]
    exact ⟨by simp, i, inside, here, fun j less => by simpa using before j (by omega) less⟩
  · rw [State.alarmPlace, (List.findIdx_eq inside).mpr]
    exact ⟨by simp [here], fun j less => by simpa using before j (by omega) less⟩

/-- A page of four masks holds each mask's position of line Fj in two words, F0 to F15 first (R199, R201). -/
theorem maskPage_getLsbD (m0 m1 m2 m3 : LineMask) (j : LineId) :
    (maskPage m0 m1 m2 m3 (j.val / 16)).getLsbD (j.val % 16) = m0.getLsbD j.val ∧
    (maskPage m0 m1 m2 m3 (2 + j.val / 16)).getLsbD (j.val % 16) = m1.getLsbD j.val ∧
    (maskPage m0 m1 m2 m3 (4 + j.val / 16)).getLsbD (j.val % 16) = m2.getLsbD j.val ∧
    (maskPage m0 m1 m2 m3 (6 + j.val / 16)).getLsbD (j.val % 16) = m3.getLsbD j.val := by
  have low : ∀ m : LineMask, j.val / 16 = 0 → (m.extractLsb' 0 16).getLsbD (j.val % 16) = m.getLsbD j.val := by
    intro m h
    rw [extractLsb'_getLsbD _ _ _ (by omega)]
    congr 1
    omega
  have high : ∀ m : LineMask, j.val / 16 = 1 → (m.extractLsb' 16 16).getLsbD (j.val % 16) = m.getLsbD j.val := by
    intro m h
    rw [extractLsb'_getLsbD _ _ _ (by omega)]
    congr 1
    omega
  have two : j.val / 16 = 0 ∨ j.val / 16 = 1 := by have := j.isLt; omega
  rcases two with h | h <;> rw [h]
  · exact ⟨low _ h, low _ h, low _ h, low _ h⟩
  · exact ⟨high _ h, high _ h, high _ h, high _ h⟩

end Sys2Proof.Machine
end

