-- ==== Sys2Proof/Tests/Slice0.lean ====
section
/-! SUPPORT. Tests: the model's own checks on small states: ill-formed commands, the words after reset, one step of each command,
and for each statement with hypotheses a state and operands that meet them, clause by clause. -/
namespace Sys2Proof.Tests
open Sys2Proof Sys2Proof.Machine
set_option Elab.async false

/-! ## Helpers -/

/-- The state after a command; every command answers one. -/
def run (c : Instr) (s : State) : State :=
  match exec c s with
  | .next t => t
  | .fault _ => s
  | .refused _ => s

/-- The state with these operands in the control slot. -/
def args (a b : Word) (s : State) : State := s.setSlot .control ⟨a, b, 0, 0⟩

/-- The state with these operands in the archive slot. -/
def archiveArgs (a b : Word) (s : State) : State := s.setSlot .archive ⟨a, b, 0, 0⟩

/-- Reset with another Time Base. -/
def timeAt (t : TimeBase) : State := { State.reset with time := t }

/-- Reset with line F5 in this state. -/
def lineAt (x : LineState) : State := State.reset.setLine 5 x

/-- Reset with this profile P0, and line F5 in this state. -/
def lineWith (check : Word) (limit : Fin 16) (x : LineState) : State :=
  { lineAt x with profiles := put State.reset.profiles 0 ⟨check, limit, 1000, 1000⟩ }

/-- A disarmed line with a LOW input. -/
def lowLine : LineState := LineState.reset .low

/-- A stamp at 7 microseconds. -/
def at7 : Stamp := ⟨7, .free⟩

/-- F5 in DEPARTING, its normal level LOW. -/
def departing : LineState :=
  { lowLine with
    physical := .high, effective := .high, cond := .departing, qualified := some .low, edge := some at7, qualTimer := some 9 }

/-- F5 in RETURNING. -/
def returning : LineState :=
  { lowLine with cond := .returning, qualified := some .high, edge := some at7, qualTimer := some 9 }

/-- F5 in NORMAL. -/
def normalLine : LineState := { lowLine with cond := .normal, qualified := some .low }

/-- F5 in OFFNORMAL. -/
def offnormalLine : LineState :=
  { lowLine with physical := .high, effective := .high, cond := .offnormal, qualified := some .high }

/-- F5 in SETTLING. -/
def settlingLine : LineState := { lowLine with cond := .settling, qualTimer := some 9 }

/-- F5 in CHATTER. -/
def chatterLine : LineState :=
  { lowLine with
    cond := .chatter, qualified := some .high, suppressed := 3, lastChange := some at7, releaseTimer := some 9 }

/-- A record of six words. -/
def six (n : Nat) : Record := ⟨BitVec.ofNat 16 n, at7, false, .mark 1 .control⟩

/-- A record of seven words. -/
def seven (n : Nat) : Record := ⟨BitVec.ofNat 16 n, at7, false, .groupClear 1 2⟩

/-- Reset with these records in the store. -/
def holding (rs : List Record) : State := { State.reset with store := { State.reset.store with records := rs, next := 9 } }

/-- Reset with a channel of the control half in this state. -/
def channelAt (c : Channel) (s : State) : State := s.setChannel .control c

/-- An enabled channel with this unread count and offset. -/
def reading (unread offset : Nat) : Channel := { Channel.reset with enabled := true, unread := unread, offset := offset }

/-- A store of 4096 - 11 words. -/
def nearFull : State := holding (List.replicate 675 (six 1) ++ List.replicate 5 (seven 1))

/-- A store of 4096 - 10 words. -/
def full : State := holding (List.replicate 681 (six 1))

/-- A pending loss. -/
def lossOf : PendingLoss := ⟨2, 3, at7⟩

/-- Reset with group G2 in this state. -/
def groupAt (x : FirstOutGroup) : State := State.reset.setGroup 2 x

/-- A candidate of a line at a time. -/
def cand (l : LineId) (t : Timestamp) : Candidate := ⟨l, ⟨t, .free⟩, false, none⟩

/-- A group in RESOLVING with three candidates, two at the earliest edge. -/
def resolvingGroup : FirstOutGroup :=
  { FirstOutGroup.cleared 10 with phase := .resolving, candidates := [cand 9 5, cand 4 5, cand 1 6], timer := some 9 }

/-- A group in TRIPPED. -/
def trippedGroup : FirstOutGroup :=
  { FirstOutGroup.cleared 10 with phase := .tripped, firstOut := some ⟨4, at7, none⟩, candidateCount := 1 }

/-- A context with its first step matched. -/
def contextOf : CorrContext :=
  ⟨put (Vector.replicate 4 none) 0 (some ⟨some 1, at7, false⟩), at7, 1000007, 1000007⟩

/-- An enabled rule with these contexts. -/
def ruleOf (cs : List CorrContext) : CorrRule := { CorrRule.reset with enabled := true, limit := 4, contexts := cs }

/-- Reset with rule 3 in this state. -/
def ruleAt (x : CorrRule) : State := State.reset.setRule 3 x

/-- An alarm entry of F5 in this state. -/
def entryOf (p : AlarmPhase) (timer : Option Nat) : AlarmEntry := ⟨5, p, 1, at7, some 4, 0, false, false, false, timer⟩

/-- Reset with these alarm entries, and the summaries they make. -/
def alarmsAt (es : List AlarmEntry) : State := handSummaries (State.reset.setEntries es)

/-- An output in PULSE mode in this pulse state. -/
def pulseOf (p : PulsePhase) (timer : Option Nat) (queued : Nat) (r : Retrigger) : OutputLine :=
  { OutputLine.reset with mode := .pulse, retrigger := r, phase := p, timer := timer, queued := queued }

/-- Reset with output Q3 in this state. -/
def outputAt (o : OutputLine) : State := State.reset.setOutput 3 o

/-! ## Well-formed commands -/

/-- A rule has at most four open contexts. -/
theorem test_wf_place : (Instr.lapseTimerExpiry 0 4).wf = false ∧ (Instr.lapseTimerExpiry 0 3).wf = true := by decide

/-- A word with a row of its own is no REGISTER_WRITE. -/
theorem test_wf_word : (Instr.registerWrite 4 1).wf = false ∧ (Instr.registerWrite 2 1).wf = true := by decide

/-- A command's code is no bad command. -/
theorem test_wf_code : (Instr.badCommand .control 0x22).wf = false ∧ (Instr.badCommand .control 0x122).wf = true := by decide

/-! ## One step of each command -/

theorem test_words_after_reset :
    ∀ p ∈ resetWords, State.reset.busRead (BitVec.ofNat 6 p.1) = p.2 ∧ State.reset.busRead (BitVec.ofNat 6 (p.1 + 32)) = p.2 := by
  decide +kernel

theorem test_no_word_spells_a_command : decodeTableWord 16 0x23 = none ∧ State.reset.withFetchWord 16 0x23 = State.reset := ⟨rfl, rfl⟩

theorem test_fieldLineChange_starts_qualifying :
    (run (.fieldLineChange 5 .high) (lineWith 30 0 normalLine)).lines.get 5 =
      { departing with edge := some ⟨0, .free⟩, qualTimer := some 3000 } := by decide +kernel

theorem test_fieldLineChange_bounces :
    (run (.fieldLineChange 5 .low) (lineAt departing)).lines.get 5 = normalLine := by decide +kernel

theorem test_syncPulse_corrects_backward :
    (run .syncPulse (timeAt { TimeBase.reset with counter := 5000040, syncEnable := true, quality := .locked })).time.hold = 40 := by
  decide +kernel

theorem test_syncPulse_steps :
    (run .syncPulse (timeAt { TimeBase.reset with counter := 5002000, syncEnable := true, quality := .locked })).time.counter =
      5000000 := by decide +kernel

theorem test_reset_edges :
    (run .hardwareReset (run .resetnAsserted (lineAt offnormalLine))).lines.get 5 = LineState.reset .high ∧
      (run .resetnAsserted State.reset).busRead 0 = 0 ∧ run .hardwareReset (run .resetnAsserted State.reset) = State.reset := by
  decide +kernel

theorem test_qualificationExpiry : (run (.qualificationExpiry 5) (lineAt departing)).lines.get 5 = offnormalLine := by
  decide +kernel

theorem test_qualificationExpiry_enters_chatter :
    ((run (.qualificationExpiry 5) (lineWith 30 2 { departing with window := some ⟨1, 99⟩ })).lines.get 5).cond = .chatter := by
  decide +kernel

theorem test_chatterWindowExpiry :
    ((run (.chatterWindowExpiry 5) (lineAt { normalLine with window := some ⟨1, 99⟩ })).lines.get 5) = normalLine := by
  decide +kernel

theorem test_releaseExpiry :
    (run (.releaseExpiry 5) (lineAt chatterLine)).lines.get 5 = normalLine ∧
      (run (.releaseExpiry 5) (lineAt chatterLine)).store.records.getLast? =
        some ⟨1, at7, false, .chatterOff 5 .low 3⟩ := by decide +kernel

theorem test_supervisionExpiry :
    (run .supervisionExpiry (timeAt { TimeBase.reset with
      syncEnable := true, quality := .locked, supervision := some 9 })).time.quality = .holdover := by decide +kernel

theorem test_holdAbsorbed : (run .holdAbsorbed (timeAt { TimeBase.reset with hold := 4 })).time.hold = 0 := by decide +kernel

/-- The lower of two lines at the earliest edge is the first-out; the other is coincident (R51). -/
theorem test_resolutionTimerExpiry :
    let g := (run (.resolutionTimerExpiry 2) (groupAt resolvingGroup)).groups.get 2
    g.firstOut = some ⟨4, ⟨5, .free⟩, none⟩ ∧ g.coincident = 0x200 ∧ g.candidateCount = 3 ∧ g.consequents = 1 := by
  decide +kernel

theorem test_lapseTimerExpiry :
    let t := run (.lapseTimerExpiry 3 0) (ruleAt (ruleOf [contextOf]))
    (t.rules.get 3).contexts = [] ∧ (t.rules.get 3).lapseCount = 1 ∧ t.store.records.length = 1 := by decide +kernel

theorem test_escalationTimerExpiry :
    let t := run (.escalationTimerExpiry 5) (alarmsAt [entryOf .alert (some 9)])
    t.alarmOf 5 = some { entryOf .alert none with priority := 2 } ∧ t.causeSet .escalated = true := by decide +kernel

theorem test_lengthTimerExpiry :
    (run (.lengthTimerExpiry 3) (outputAt (pulseOf .pulsing (some 9) 0 .queue))).outputs.lines.get 3 =
      pulseOf .gap (some 100000) 0 .queue := by decide +kernel

theorem test_gapTimerExpiry :
    (run (.gapTimerExpiry 3) (outputAt (pulseOf .gap (some 9) 2 .queue))).outputs.lines.get 3 =
      pulseOf .pulsing (some 100000) 1 .queue := by decide +kernel

theorem test_holdoffTimerExpiry :
    (run (.holdoffTimerExpiry .control) (channelAt { reading 1 0 with holdoff := 1, holdoffTimer := some 9 }
      State.reset)).channelCauseSet .control .ready = true := by decide +kernel

theorem test_flashPhase :
    (run .flashPhase State.reset).outputs.flash = 125000 ∧
      (run .flashPhase { State.reset with outputs := { OutputUnit.reset with flash := 875000 } }).outputs.flash = 0 := by
  decide +kernel

/-- The RESTART record's first header word (Table 45: kind 17, one body word). -/
theorem test_channelDataRead :
    (run (.channelDataRead .control) (channelAt (reading 1 0) State.reset)).lastRead = 0x0031 ∧
      ((run (.channelDataRead .control) (channelAt (reading 1 0) State.reset)).channels.get .control).offset = 1 := by
  decide +kernel

theorem test_channelDataRead_consumes :
    (run (.channelDataRead .control) (channelAt (reading 1 5) State.reset)).store.records = [] := by decide +kernel

theorem test_channelStatusRead :
    (run (.channelStatusRead .control) (channelAt { reading 1 3 with torn := true } State.reset)).lastRead = 0x0309 := by
  decide +kernel

theorem test_timeHighRead :
    let t := run (.timeHighRead .archive) (timeAt { TimeBase.reset with counter := 0x000100020003 })
    t.lastRead = 1 ∧ t.time.latches.archive = ⟨2, 3, .free⟩ := by decide +kernel

/-- RULE 15 word 10 is followed by RULE 0 word 0 (R195). -/
theorem test_tableDataRead :
    (run .tableDataRead { State.reset with ports := ⟨⟨3, 15, 10⟩, ⟨0, 0, 0⟩⟩ }).ports.control = ⟨3, 0, 0⟩ := by decide +kernel

theorem test_mirrorDataRead :
    let t := run .mirrorDataRead { State.reset with ports := ⟨⟨0, 0, 0⟩, ⟨1, 2, 2⟩⟩ }
    t.lastRead = 1000 ∧ t.ports = ⟨⟨0, 0, 0⟩, ⟨1, 2, 3⟩⟩ := by decide +kernel

theorem test_tableDataWrite :
    let t := run (.tableDataWrite 0x3005) State.reset
    (t.lineTable.get 0).word0 = 0x3005 ∧ t.ports.control = ⟨0, 0, 1⟩ ∧
      (run (.tableDataWrite 0x0030) State.reset).tableStatus = some .badOperand := by decide +kernel

theorem test_tableStatusRead :
    let t := run .tableStatusRead { State.reset with tableStatus := some .tableInUse }
    t.lastRead = 0x71 ∧ t.tableStatus = none := by decide +kernel

theorem test_tableAddressWrite :
    (run (.tableAddressWrite 0x31F3) State.reset).ports.control = ⟨0, 0, 0⟩ ∧
      (run (.tableAddressWrite 0x01F3) State.reset).ports.control = ⟨0, 31, 3⟩ := by decide +kernel

theorem test_mirrorAddressWrite : (run (.mirrorAddressWrite 0x8007) State.reset).ports.archive = ⟨8, 0, 7⟩ := by decide +kernel

theorem test_controlWrites :
    (run (.storeControlWrite 1) State.reset).store.policy = .wrap ∧
      (run (.timeControlWrite 1) State.reset).time.quality = .acquiring ∧
      (run (.outputDataWrite 0x1A5) State.reset).outputs.data = 0xA5 := by decide +kernel

theorem test_readyWrites :
    ((run (.readyThresholdWrite .archive 256) State.reset).channels.get .archive).threshold = 1 ∧
      ((run (.readyThresholdWrite .archive 255) State.reset).channels.get .archive).threshold = 255 ∧
      ((run (.readyHoldoffWrite .archive 7) State.reset).channels.get .archive).holdoff = 7 := by decide +kernel

theorem test_causeWrites :
    (run (.systemCausesWrite .archive 1) (raise .alarmNew State.reset)).causeSet .alarmNew = true ∧
      (run (.systemCausesWrite .control 1) (raise .alarmNew State.reset)).causeSet .alarmNew = false ∧
      ((run (.channelCausesWrite .control 0x0102) State.reset).irq.channel.get .control).word = 0x0100 ∧
      (run (.systemRoutesWrite 0x0C1) State.reset).irq.routesWord = 0x0C1 := by decide +kernel

theorem test_requestPin :
    (raiseChannel .control .ready (run (.channelCausesWrite .control 0x0100) State.reset)).requestPin .control = .drivenLow ∧
      State.reset.requestPin .control = .released := by decide +kernel

theorem test_registerWrite :
    ((run (.registerWrite 34 9) State.reset).slots.get .archive).arg0 = 9 ∧
      (run (.registerWrite 15 0) State.reset).time.tolerance = 100 ∧ run (.registerWrite 31 9) State.reset = State.reset := by
  decide +kernel

theorem test_badCommand : ((run (.badCommand .archive 0x0123) State.reset).slots.get .archive).result = 0x2303 := by
  decide +kernel

theorem test_armLine :
    let t := run (.armLine .control) (args 5 0 State.reset)
    t.lines.get 5 = normalLine ∧ (t.slots.get .control).result = 0x0101 ∧
      t.store.records.getLast? = some ⟨1, ⟨0, .free⟩, false, .armed 5 .low⟩ := by decide +kernel

theorem test_disarmLine : (run (.disarmLine .control) (args 5 0 (lineAt departing))).lines.get 5 = LineState.reset .high := by
  decide +kernel

theorem test_inject :
    ((run (.inject .control) (args 5 1 (lineWith 30 0 normalLine))).lines.get 5).cond = .departing := by decide +kernel

theorem test_endInject :
    (run (.endInject .control) (args 5 0 (lineAt { normalLine with injected := some .low }))).lines.get 5 = normalLine := by
  decide +kernel

theorem test_groupReset :
    (run (.groupReset .control) (args 2 0 (groupAt trippedGroup))).groups.get 2 = FirstOutGroup.cleared 10 := by decide +kernel

theorem test_ruleEnable : ((run (.ruleEnable .control) (args 3 0 State.reset)).rules.get 3).enabled = true := by decide +kernel

theorem test_ruleDisable :
    let t := run (.ruleDisable .control) (args 3 0 (ruleAt (ruleOf [contextOf, contextOf])))
    t.rules.get 3 = { ruleOf [] with enabled := false, lapseCount := 2 } ∧ t.store.records.length = 3 := by decide +kernel

theorem test_setTime :
    (run (.setTime .control) (args 2 3 (timeAt { TimeBase.reset with setHigh := 1 }))).time.counter = 0x000100020003 := by
  decide +kernel

theorem test_snapshot :
    (run (.snapshot .control) State.reset).store.records.getLast? = some ⟨1, ⟨0, .free⟩, false, .snapshot 0 0 0 0⟩ := by
  decide +kernel

theorem test_storeClear :
    (run (.storeClear .control) State.reset).store.records = [⟨1, ⟨0, .free⟩, false, .mark 0xFFFF .control⟩] := by decide +kernel

theorem test_pulse :
    (run (.pulse .control) (args 3 0 (outputAt (pulseOf .idle none 0 .restart)))).outputs.lines.get 3 =
      pulseOf .pulsing (some 100000) 0 .restart := by decide +kernel

theorem test_restart :
    let t := run (.restart .control) (lineAt departing)
    t.lines.get 5 = { offnormalLine with qualTimer := none } ∧
      t.store.records = [⟨1, ⟨0, .free⟩, false, .restart .command⟩, ⟨2, ⟨0, .free⟩, false, .armed 5 .high⟩] := by decide +kernel

theorem test_ackLine :
    (run (.ackLine .archive) (archiveArgs 5 9 (alarmsAt [entryOf .alert (some 9)]))).alarmOf 5 = some (entryOf .acked none) := by
  decide +kernel

theorem test_ackAll :
    (run (.ackAll .control) (alarmsAt [entryOf .returned none])).alarms.entries = [] := by decide +kernel

theorem test_silence :
    (run (.silence .archive) (alarmsAt [entryOf .alert none])).store.records.getLast? =
      some ⟨1, ⟨0, .free⟩, false, .silence 1 .archive⟩ := by decide +kernel

theorem test_mark :
    (run (.mark .archive) (archiveArgs 7 0 State.reset)).store.records.getLast? =
      some ⟨1, ⟨0, .free⟩, false, .mark 7 .archive⟩ := by decide +kernel

theorem test_channelEnable :
    ((run (.channelEnableFromOldest .archive) State.reset).channels.get .archive).unread = 1 ∧
      (run (.channelEnableFromOldest .archive) State.reset).channelCauseSet .archive .ready = true ∧
      (run (.channelEnableFromNext .archive) State.reset).store.records = [] := by decide +kernel

theorem test_channelDisable :
    ((run (.channelDisable .control) (channelAt (reading 1 3) State.reset)).channels.get .control) = Channel.reset := by
  decide +kernel

theorem test_channelSkip_and_reread :
    (run (.channelSkip .control) (channelAt (reading 1 3) State.reset)).store.records = [] ∧
      ((run (.channelReread .control) (channelAt (reading 1 3) State.reset)).channels.get .control).offset = 0 := by
  decide +kernel

theorem test_step_takes_the_front :
    step { State.reset with pending := [.flashPhase, .syncPulse] } = exec .flashPhase { State.reset with pending := [.syncPulse] } := rfl

/-! ## The statements' hypotheses are met -/

theorem test_hyps_EmptyQueueLetsTimePass :
    (State.reset.pending = [] ∧ State.reset.dueCommands = [] ∧ State.reset.inReset = false ∧ State.reset.clockRunning = true ∧
      State.reset.time.hold = 0) ∧
    (let s := timeAt { TimeBase.reset with hold := 1 }
     s.dueCommands = [] ∧ s.inReset = false ∧ s.clockRunning = true ∧ s.time.hold ≠ 0) ∧
    (State.held.inReset = true ∧ State.held.dueCommands = []) ∧
    (let s := { State.reset with clockRunning := false }
     s.clockRunning = false ∧ s.dueCommands = []) ∧
    (timeAt { TimeBase.reset with supervision := some 0 }).dueCommands = [.supervisionExpiry] ∧
    (let s := channelAt { reading 1 0 with holdoffTimer := some 0 } (timeAt { TimeBase.reset with supervision := some 0 })
     2 ≤ s.dueCommands.length) := by decide +kernel

theorem test_hyps_HardwareResetRestoresValues :
    State.reset.clockRunning = true ∧ ({ State.reset with clockRunning := false } : State).clockRunning = false := by
  decide +kernel

theorem test_hyps_ResetnAssertedHoldsValues :
    State.held.pending = [] ∧ State.held.inReset = true ∧ isReadStrobe .tableStatusRead = true ∧
    (isReadStrobe .syncPulse = false ∧ actsInReset .syncPulse = false) ∧ State.held.clockRunning = true := by decide +kernel

theorem test_hyps_ResetValuesHeldByEveryStep :
    ({ State.held with pending := [.syncPulse] } : State).resetHeld ∧
      ∃ t, step { State.held with pending := [.syncPulse] } = .next t :=
  ⟨fun _ => by decide +kernel, _, rfl⟩

theorem test_hyps_StoreReserveAndNumbersKept :
    nearFull.store.keepsReserve ∧ (∃ t, step nearFull = .next t) ∧
    ({ State.reset.store with loss := some ⟨1, 2, at7⟩, next := 3 } : Store).accounts ∧
    ({ State.reset.store with
       records := [six 0, ⟨4, at7, false, .loss 1 3⟩], next := 5 } : Store).accounts := by
  refine ⟨by unfold Store.keepsReserve; decide +kernel, ⟨_, rfl⟩, ⟨trivial, by decide +kernel, ?_⟩, ⟨⟨?_, trivial⟩, ?_⟩⟩
  · intro r h; cases h; rfl
  · exact ⟨rfl, by decide +kernel⟩
  · intro r h; cases h; rfl

theorem test_hyps_AppendIsTakenWhole :
    (nearFull.store.loss = none ∧ (Body.mark 1 .control).len + 5 = nearFull.store.free) ∧
    (let st := { (holding (List.replicate 676 (six 1) ++ List.replicate 3 (seven 1))).store with loss := some lossOf }
     st.loss = some lossOf ∧ (Body.mark 1 .control).len + 13 = st.free) ∧
    (full.store.policy = .hold ∧ full.store.loss = none ∧ full.store.free < full.store.need (Body.mark 1 .control).len) ∧
    (let st := { nearFull.store with loss := some lossOf }
     st.policy = .hold ∧ st.loss = some lossOf ∧ st.free < st.need (Body.mark 1 .control).len) := by decide +kernel

/-- The store nearly full under WRAP, a channel with this unread count and offset enabled. -/
def wrapping (unread offset : Nat) : State :=
  channelAt (reading unread offset) { full with store := { full.store with policy := .wrap } }

theorem test_hyps_WrapDropsTheFewestUnpinned :
    (let s := wrapping 681 0
     s.store.policy = .wrap ∧ s.store.free < s.store.need (Body.mark 1 .control).len ∧ wordsOf s.store.records ≤ 4096 ∧
       s.pinnedWithin (s.dropsFor 6) = false ∧ s.store.loss = none) ∧
    (let s := wrapping 681 5
     s.store.policy = .wrap ∧ s.store.free < s.store.need (Body.mark 1 .control).len ∧ wordsOf s.store.records ≤ 4096 ∧
       s.pinnedWithin (s.dropsFor 6) = true ∧ s.store.loss = none) ∧
    (let s := { wrapping 681 0 with store := { (wrapping 681 0).store with loss := some lossOf } }
     s.store.free < s.store.need (Body.mark 1 .control).len ∧ s.store.loss = some lossOf ∧
       s.pinnedWithin (s.dropsFor 6) = false) ∧
    (let s := { wrapping 680 5 with store := { (wrapping 680 5).store with loss := some lossOf } }
     s.store.loss = some lossOf ∧ s.pinnedWithin (s.dropsFor 6) = true ∧ s.pinnedWithin 1 = false) := by decide +kernel

theorem test_hyps_NoticesMoveTheCursors :
    (let s := channelAt (reading 1 2) State.reset
     (s.channels.get .control).enabled = true ∧ (s.channels.get .archive).enabled = false ∧
       (s.channels.get .control).unread ≠ 0 ∧ (s.channels.get .control).unread = s.store.records.length) ∧
    (let s := channelAt (reading 1 0) (holding [six 1, six 2])
     (s.channels.get .control).unread ≠ s.store.records.length) := by decide +kernel

theorem test_hyps_ReclaimRemovesTheConsumed :
    (State.reset.channels.control.enabled = false ∧ State.reset.channels.archive.enabled = false ∧ State.reset.store.loss = none) ∧
    (let s := channelAt (reading 1 0) (holding [six 1, six 2])
     s.channels.control.enabled = true ∧ s.channels.archive.enabled = false ∧
       1 = s.store.records.length - s.channels.control.unread) ∧
    (let s := (holding [six 1, six 2]).setChannel .archive (reading 2 0)
     s.channels.control.enabled = false ∧ s.channels.archive.enabled = true ∧
       0 = s.store.records.length - s.channels.archive.unread) ∧
    (let s := (channelAt (reading 0 0) (holding [six 1, six 2])).setChannel .archive (reading 1 0)
     s.channels.control.enabled = true ∧ s.channels.archive.enabled = true ∧
       1 = s.store.records.length - max s.channels.control.unread s.channels.archive.unread) ∧
    (let s := channelAt (reading 1 0)
      { holding [six 1, six 2] with store := { (holding [six 1, six 2]).store with loss := some lossOf } }
     s.store.loss = some lossOf ∧ 13 ≤ 4096 - wordsOf (s.store.records.drop 1)) ∧
    (let rs := List.replicate 4 (seven 1) ++ List.replicate 676 (six 1)
     4096 - wordsOf (rs.drop 1) = 19 ∧ 4096 - wordsOf (List.drop 1 (six 1 :: rs)) < 13) := by decide +kernel

theorem test_hyps_SnapshotAndStoreClear :
    State.reset.inReset = false ∧ ((channelAt (reading 1 3) State.reset).channels.get .control).enabled = true ∧
      (State.reset.channels.get .archive).enabled = false := by decide +kernel

theorem test_hyps_MarkRecordsItsNote :
    State.reset.inReset = false ∧ ((args 0xFFFE 0 State.reset).slots.get .control).arg0 ≠ 0xFFFF ∧
      ((archiveArgs 0xFFFF 0 State.reset).slots.get .archive).arg0 = 0xFFFF := by decide +kernel

theorem test_hyps_ChannelDataReadDelivers :
    (let s := channelAt (reading 1 4) State.reset
     (s.channels.get .control).enabled = true ∧ s.cursorRecord .control = some Record.afterReset ∧
       (s.channels.get .control).offset + 1 < Record.afterReset.len) ∧
    (let s := channelAt (reading 1 5) State.reset
     s.cursorRecord .control = some Record.afterReset ∧
       (s.channels.get .control).offset + 1 = Record.afterReset.len) := by decide +kernel

theorem test_hyps_EmptyReadSetsItsFlag :
    (State.reset.inReset = false ∧ (State.reset.channels.get .control).enabled = false) ∧
    (let s := channelAt (reading 0 0) State.reset
     (s.channels.get .control).enabled = true ∧ s.cursorRecord .control = none) ∧
    (let s := channelAt (reading 1 5) State.reset
     (s.channels.get .control).enabled = true ∧ s.cursorRecord .control = some Record.afterReset) := by decide +kernel

theorem test_hyps_ChannelStatusReadClearsTwoFlags :
    ((channelAt (reading 1 15) State.reset).channels.get .control).offset < 16 := by decide +kernel

theorem test_hyps_ChannelCommandsAct :
    (State.reset.channels.get .control).enabled = false ∧
    (let s := channelAt (reading 1 3) State.reset
     s.inReset = false ∧ (s.channels.get .control).enabled = true ∧ (s.channels.get .control).unread ≠ 0) := by decide +kernel

theorem test_hyps_ChannelRereadReturnsToTheHeader :
    (let s := channelAt (reading 1 1) State.reset
     (s.channels.get .control).enabled = true ∧ (s.channels.get .control).unread ≠ 0 ∧ 0 < (s.channels.get .control).offset) ∧
    (let s := channelAt (reading 1 0) State.reset
     (s.channels.get .control).enabled = true ∧ (s.channels.get .control).offset = 0) ∧
    (let s := channelAt (reading 0 0) State.reset
     (s.channels.get .control).enabled = true ∧ (s.channels.get .control).unread = 0) ∧
    (State.reset.channels.get .control).enabled = false := by decide +kernel

theorem test_hyps_CommandsTurnedAwayByState :
    (let s := channelAt (reading 0 0) State.reset
     s.inReset = false ∧ (s.channels.get .control).enabled = true ∧ (s.channels.get .control).unread = 0 ∧
       (s.channels.get .archive).enabled = false) ∧
    (let s := args 5 1 (lineAt { departing with injected := some .high })
     s.slots.control.arg0.toNat = 5 ∧ (s.lines.get 5).cond ≠ .disarmed ∧
       s.slots.control.arg1.toNat = Level.high.code ∧ (s.lines.get 5).injected = some .high) ∧
    (let s := args 5 0 (lineAt normalLine)
     (s.lines.get 5).cond ≠ .disarmed ∧ (s.lines.get 5).injected = none) ∧
    (let s := args 31 0 State.reset
     s.slots.control.arg0.toNat = 31 ∧ (s.lines.get 31).cond = .disarmed ∧
       s.slots.control.arg1.toNat = Level.low.code) := by decide +kernel

theorem test_hyps_ReadyCoalescing :
    State.reset.inReset = false ∧ (255 < (256 : Word).toNat) ∧ ((255 : Word) ≠ 0 ∧ (255 : Word).toNat ≤ 255) ∧
    (let s := channelAt { reading 1 0 with threshold := 2 } State.reset
     (1 : Word).toNat ≤ (s.channels.get .control).unread ∧
       (s.channels.get .control).unread < (s.channels.get .control).threshold.toNat) ∧
    (let s := channelAt { reading 1 0 with holdoff := 1, holdoffTimer := some 9 } State.reset
     s.clockRunning = true ∧ (s.channels.get .control).holdoffTimer.isSome = true) := by decide +kernel

theorem test_hyps_ChannelsLegalAfterEveryStep :
    let s := (holding [six 1, six 2]).setChannel .archive { reading 2 5 with holdoff := 1, holdoffTimer := some 9 }
    (∀ h, s.channelLegal h) ∧ s.cursorRecord .archive = some (six 1) ∧ (six 1).len = 6 ∧ s.store.keepsReserve ∧
      ∃ t, step s = .next t := by
  refine ⟨fun h => ?_, by decide +kernel, by decide +kernel, by unfold Store.keepsReserve; decide +kernel, _, rfl⟩
  cases h <;> (unfold State.channelLegal Channel.legal; decide +kernel)

/-- A full store's channel has 681 records unread, as many as Table 23 gives. -/
theorem test_hyps_ChannelsLegalAfterEveryStep_full :
    let s := full.setChannel .control (reading 681 0)
    s.store.keepsReserve ∧ s.store.records.length = 681 ∧ (s.channels.get .control).unread = 681 := by
  unfold Store.keepsReserve; decide +kernel

theorem test_hyps_CauseWritesClearAndEnable :
    (State.reset.inReset = false ∧ State.reset.channelCauseSet .control .ready = false ∧ (1 : Word).getLsbD 0 = true) ∧
    (let s := raiseChannel .control .ready State.reset
     s.channelCauseSet .control .ready = true ∧ (s.channels.get .control).unread = 0) ∧
    (let s := raiseChannel .control .ready (channelAt { reading 1 0 with holdoff := 1 } State.reset)
     s.channelCauseSet .control .ready = true ∧ (s.channels.get .control).unread ≠ 0 ∧
       (s.channels.get .control).holdoff ≠ 0) ∧
    (let s := raiseChannel .control .ready (channelAt (reading 1 0) State.reset)
     (s.channels.get .control).unread ≠ 0 ∧ (s.channels.get .control).holdoff = 0) := by decide +kernel

theorem test_hyps_TimeHighReadLatches :
    State.reset.inReset = false ∧ (45 : WordId) ∈ ([11, 12, 13, 43, 44, 45] : List WordId) := by decide +kernel

theorem test_hyps_SetTimeLoadsTheCounter :
    (State.reset.inReset = false ∧
      ¬(State.reset.time.syncEnable = true ∧ (State.reset.time.quality = .locked ∨ State.reset.time.quality = .holdover))) ∧
    (let s := timeAt { TimeBase.reset with syncEnable := true, quality := .holdover }
     s.time.syncEnable = true ∧ s.time.quality = .holdover) ∧
    (let s := (groupAt resolvingGroup).setGroup 7 trippedGroup
     (s.groups.get 2).phase = .resolving ∧ (s.groups.get 2).candidates ≠ [] ∧ (s.groups.get 7).phase ≠ .resolving ∧
       ∀ r, (s.rules.get r).contexts = []) ∧
    ((ruleAt (ruleOf [contextOf, contextOf])).rules.get 3).contexts ≠ [] := by decide +kernel

/-- The notice trips the resolving group and ends both contexts (R55, R124). -/
theorem test_discontinuityNotice :
    let t := discontinuityNotice ((groupAt resolvingGroup).setRule 15 (ruleOf [contextOf, contextOf]))
    (t.groups.get 2).phase = .tripped ∧ (t.groups.get 2).discontinuity = true ∧
      t.rules.get 15 = { ruleOf [] with lapseCount := 2 } := by
  have order : ∀ c, interleave c 3 [Sum.inl 2] [Sum.inr 15, Sum.inr 15] ∈
      ([[.inl 2, .inr 15, .inr 15], [.inr 15, .inl 2, .inr 15], [.inr 15, .inr 15, .inl 2]] :
        List (List (GroupId ⊕ RuleId))) := by
    intro c
    cases a : c 2 <;> cases b : c 1 <;> simp [interleave, a, b]
  have all : ∀ acts ∈ ([[.inl 2, .inr 15, .inr 15], [.inr 15, .inl 2, .inr 15], [.inr 15, .inr 15, .inl 2]] :
      List (List (GroupId ⊕ RuleId))),
      let t := noticeActions acts { (groupAt resolvingGroup).setRule 15 (ruleOf [contextOf, contextOf]) with freeIndex := 1 }
      (t.groups.get 2).phase = .tripped ∧ (t.groups.get 2).discontinuity = true ∧
        t.rules.get 15 = { ruleOf [] with lapseCount := 2 } := by decide +kernel
  exact all _ (order _)

theorem test_hyps_TimeControlSupervisionAndHold :
    ((1 : Word).getLsbD 0 = true ∧ State.reset.time.syncEnable = false ∧ State.reset.time.quality = .free) ∧
    ((2 : Word).getLsbD 0 = State.reset.time.syncEnable) ∧
    (let s := timeAt { TimeBase.reset with syncEnable := true, quality := .locked, supervision := some 9 }
     (0 : Word).getLsbD 0 = false ∧ s.time.syncEnable = true ∧ s.time.quality ≠ .free ∧
       s.time.supervision.isSome = true ∧ s.time.quality = .locked) ∧
    (let s := timeAt { TimeBase.reset with syncEnable := true, quality := .acquiring, supervision := some 9 }
     s.time.supervision.isSome = true ∧ s.time.quality ≠ .locked) := by decide +kernel

/-- A Time Base with sync enable On that has counted 1 000 100 microseconds since the last pulse. -/
def syncing (q : Quality) (counter : Timestamp) : TimeBase :=
  { TimeBase.reset with
    elapsed := 1000100, counter := counter, syncEnable := true, quality := q, lastPulse := some 0, hold := 3 }

theorem test_hyps_SyncPulseAlignsTheCounter :
    State.reset.time.syncEnable = false ∧
    ((timeAt (syncing .acquiring 7)).time.syncEnable = true ∧
      (timeAt { syncing .acquiring 7 with lastPulse := none }).time.lastPulse = none) ∧
    (let t := { syncing .acquiring 7 with elapsed := 1000101 }
     t.lastPulse = some 0 ∧ 1000000 + t.tolerance.toNat < t.elapsed - 0) ∧
    (let t := syncing .acquiring 7
     t.lastPulse = some 0 ∧ t.elapsed - 0 ≤ 1000000 + t.tolerance.toNat ∧ 1000000 ≤ t.elapsed - 0 + t.tolerance.toNat) ∧
    ((syncing .locked 5001000).counter.toNat % 1000000 ≤ (syncing .locked 5001000).stepLimit.toNat) ∧
    (1000000 - (syncing .holdover 5999000).counter.toNat % 1000000 ≤ (syncing .holdover 5999000).stepLimit.toNat) ∧
    ((syncing .locked 5001001).stepLimit.toNat < (syncing .locked 5001001).counter.toNat % 1000000) ∧
    ((syncing .locked 5500000).stepLimit.toNat < 1000000 - (syncing .locked 5500000).counter.toNat % 1000000) ∧
    (let s := { groupAt resolvingGroup with time := syncing .locked 5500000 }
     (s.groups.get 2).phase = .resolving ∧ (s.groups.get 2).candidates ≠ [] ∧ (s.groups.get 0).phase ≠ .resolving) := by
  decide +kernel

/-- Room for the TIME records of a pulse: 23 words for a step, with nothing for its notice to end under WRAP, and 14 for a
correction that changes the quality. -/
theorem test_hyps_SyncPulseAlignsTheCounter_records :
    (let s := { groupAt resolvingGroup with time := syncing .locked 5500000 }
     s.store.loss = none ∧ 23 ≤ s.store.free ∧ s.store.policy = .hold) ∧
    (let s := { timeAt (syncing .locked 5001001) with store := { State.reset.store with policy := .wrap } }
     s.store.loss = none ∧ 23 ≤ s.store.free ∧ (∀ g, (s.groups.get g).phase ≠ .resolving) ∧
       ∀ k, (s.rules.get k).contexts = []) ∧
    (let s := timeAt (syncing .holdover 5001000)
     s.time.quality ≠ .locked ∧ s.store.loss = none ∧ 14 ≤ s.store.free) := by decide +kernel

/-- A pulse 1001 microseconds past the second steps back: the STEP record and the QUALITY record, in this order (R30, R33). -/
theorem test_syncPulse_stepRecords :
    (run .syncPulse (timeAt (syncing .locked 5001001))).store.records =
      [Record.afterReset, ⟨1, ⟨5000000, .locked⟩, false, .time .step .locked .acquiring (-1001)⟩,
       ⟨2, ⟨5000000, .acquiring⟩, false, .time .quality .locked .acquiring 0⟩] := by decide +kernel

theorem test_hyps_TimeBaseLegalAfterEveryStep :
    (syncing .holdover 7).legal ∧ TimeBase.reset.legal ∧ ∃ t, step (timeAt (syncing .holdover 7)) = .next t :=
  ⟨by unfold TimeBase.legal; decide +kernel, by unfold TimeBase.legal; decide +kernel, _, rfl⟩

theorem test_hyps_FieldChangeDrivesTheLine :
    (State.reset.inReset = false ∧ State.reset.clockRunning = true) ∧
    ({ normalLine with injected := some .low }).injected = some normalLine.effective ∧
    (lowLine.injected = none ∧ lowLine.effective = .low ∧ lowLine.effective ≠ .high ∧ lowLine.cond = .disarmed) ∧
    (settlingLine.cond = .settling ∧ settlingLine.effective ≠ .high ∧ normalLine.cond = .normal ∧ normalLine.effective ≠ .high) ∧
    (departing.cond = .departing ∧ departing.effective ≠ .low ∧ offnormalLine.cond = .offnormal ∧ offnormalLine.effective ≠ .low) ∧
    (returning.cond = .returning ∧ returning.effective ≠ .high ∧ chatterLine.cond = .chatter ∧ chatterLine.effective ≠ .high) ∧
    (let s := lineWith 1 0 normalLine
     s.time.elapsed + 100 * (s.profiles.get (s.lineTable.get 5).profile).checkTime.toNat ≠ s.time.elapsed) ∧
    (let s := lineWith 0 0 offnormalLine
     s.time.elapsed + 100 * (s.profiles.get (s.lineTable.get 5).profile).checkTime.toNat = s.time.elapsed ∧
       (s.profiles.get (s.lineTable.get 5).profile).chatterLimit = 0) := by decide +kernel

theorem test_hyps_ArmAndDisarmLine :
    (let s := args 5 0 (lineWith 1 0 lowLine)
     s.inReset = false ∧ s.slots.control.arg0.toNat = 5 ∧ (s.lines.get 5).cond = .disarmed ∧
       (s.profiles.get (s.lineTable.get 5).profile).checkTime ≠ 0) ∧
    (let s := args 31 0 State.reset
     s.slots.control.arg0.toNat = 31 ∧ (s.lines.get 31).cond = .disarmed ∧
       (s.profiles.get (s.lineTable.get 31).profile).checkTime = 0) ∧
    (let s := args 5 0 (lineAt departing)
     (s.lines.get 5).cond ≠ .disarmed ∧ s.store.loss = none ∧ 11 ≤ s.store.free) ∧
    nearFull.store.free = 11 := by decide +kernel

theorem test_hyps_InjectAndEndInject :
    (let s := args 5 1 (lineAt normalLine)
     s.inReset = false ∧ s.slots.control.arg0.toNat = 5 ∧ (s.lines.get 5).cond ≠ .disarmed ∧
       s.slots.control.arg1.toNat = Level.high.code ∧ (s.lines.get 5).injected ≠ some .high ∧ (s.lines.get 5).effective ≠ .high) ∧
    (let s := args 5 0 (lineAt normalLine)
     s.slots.control.arg1.toNat = Level.low.code ∧ (s.lines.get 5).injected ≠ some .low ∧ (s.lines.get 5).effective = .low) ∧
    (let x := { normalLine with injected := some .low, physical := .low }
     x.injected.isSome = true ∧ x.effective = x.physical) ∧
    (let x := { normalLine with injected := some .low, physical := .high }
     x.injected.isSome = true ∧ x.effective ≠ x.physical) ∧
    (let s := lineWith 1 0 normalLine
     s.inReset = false ∧ s.clockRunning = true ∧ (s.lines.get 5).injected = none ∧ (s.lines.get 5).effective ≠ .high ∧
       s.time.elapsed + 100 * (s.profiles.get (s.lineTable.get 5).profile).checkTime.toNat ≠ s.time.elapsed) ∧
    (let s := lineWith 0 0 offnormalLine
     s.time.elapsed + 100 * (s.profiles.get (s.lineTable.get 5).profile).checkTime.toNat = s.time.elapsed) ∧
    (settlingLine.cond = .settling ∧ departing.cond = .departing ∧ returning.cond = .returning ∧
      chatterLine.cond = .chatter ∧ lowLine.cond = .disarmed ∧ normalLine.cond = .normal ∧ offnormalLine.cond = .offnormal) := by
  decide +kernel

theorem test_hyps_QualificationExpiryQualifies :
    (let s := lineAt settlingLine
     s.inReset = false ∧ s.clockRunning = true ∧ (s.lines.get 5).qualTimer.isSome = true ∧ (s.lines.get 5).cond = .settling ∧
       s.store.loss = none ∧ 11 ≤ s.store.free) ∧
    (let s := { lineAt departing with lineTable := put State.reset.lineTable 5 { LineEntry.reset with recordDepartures := true } }
     (s.lines.get 5).cond = .departing ∧ (s.lines.get 5).edge = some at7 ∧ (s.lineTable.get 5).recordDepartures = true ∧
       (s.profiles.get (s.lineTable.get 5).profile).chatterLimit = 0 ∧ s.store.policy = .hold ∧ s.store.loss = none ∧
       13 ≤ s.store.free) ∧
    (let s := { lineAt returning with lineTable := put State.reset.lineTable 5 { LineEntry.reset with recordReturns := true } }
     (s.lines.get 5).cond = .returning ∧ (s.lines.get 5).edge = some at7 ∧ (s.lineTable.get 5).recordReturns = true ∧
       (s.lines.get 5).qualTimer.isSome = true) ∧
    (let s := lineWith 1 2 departing
     (s.lines.get 5).window = none ∧ 1 < (s.profiles.get (s.lineTable.get 5).profile).chatterLimit.val) ∧
    (let s := lineWith 1 15 { returning with window := some ⟨13, 99⟩ }
     (s.lines.get 5).window = some ⟨13, 99⟩ ∧ 13 + 1 < (s.profiles.get (s.lineTable.get 5).profile).chatterLimit.val) ∧
    (LineEntry.reset.ackMode = .off ∧ LineEntry.reset.group = none ∧ LineEntry.reset.departAction = none ∧
      LineEntry.reset.recordDepartures = false) := by decide +kernel

/-- F5 with a group, an alarm and a departure action, its changes recorded. -/
def routedEntry : LineEntry :=
  { LineEntry.reset with
    ackMode := .both, recordDepartures := true, recordReturns := true, group := some 2
    departAction := some 3, returnAction := some 3 }

/-- The blocks that a change reaches, one after another, from any record number and any state after its record (R38). -/
theorem test_hyps_QualificationExpiry_routing (dir : Direction) (num : Option Word) (u0 : State) : ∃ u1 u2 u3 : State,
    (dir = .depart → ∀ g, routedEntry.group = some g → u1 = groupDeparture g ⟨5, at7, false, num⟩ u0) ∧
    (dir = .giveBack ∨ routedEntry.group = none → u1 = u0) ∧ u2 = correlate ⟨5, dir, at7, false, num⟩ u1 ∧
    routedEntry.ackMode ≠ .off ∧
    u3 = (if dir = .depart then alarmDeparture ⟨5, routedEntry.priority, at7, false, num⟩ u2 else alarmReturn 5 u2) := by
  cases dir with
  | depart =>
    refine ⟨groupDeparture 2 ⟨5, at7, false, num⟩ u0, _, _, fun _ g e => ?_, fun h => ?_, rfl, nofun, rfl⟩
    · cases e; rfl
    · rcases h with h | h <;> cases h
  | giveBack => exact ⟨u0, _, _, nofun, fun _ => rfl, rfl, nofun, rfl⟩

/-- A window opens with count 1 and then counts (R12). -/
theorem test_qualificationExpiry_counts :
    ((run (.qualificationExpiry 5) (lineWith 1 3 departing)).lines.get 5).window = some ⟨1, 1000000⟩ ∧
      ((run (.qualificationExpiry 5) (lineWith 1 3 { returning with window := some ⟨1, 99⟩ })).lines.get 5).window =
        some ⟨2, 99⟩ := by decide +kernel

theorem test_hyps_ChatterBeginsAndEnds :
    (let s := lineWith 1 2 { departing with window := some ⟨1, 99⟩ }
     (s.lines.get 5).qualTimer.isSome = true ∧ (s.lines.get 5).cond = .departing ∧ (s.lines.get 5).edge = some at7 ∧
       (s.lines.get 5).window = some ⟨1, 99⟩ ∧ (s.profiles.get (s.lineTable.get 5).profile).chatterLimit ≠ 0 ∧
       (s.profiles.get (s.lineTable.get 5).profile).chatterLimit.val ≤ 1 + 1) ∧
    (let s := lineWith 1 15 { returning with window := some ⟨14, 99⟩ }
     (s.lines.get 5).cond = .returning ∧ (s.profiles.get (s.lineTable.get 5).profile).chatterLimit.val ≤ 14 + 1) ∧
    (let s := lineAt chatterLine
     s.inReset = false ∧ s.clockRunning = true ∧ (s.lines.get 5).cond = .chatter ∧
       (s.lines.get 5).releaseTimer.isSome = true ∧ (s.lines.get 5).lastChange = some at7 ∧ s.store.loss = none ∧
       12 ≤ s.store.free ∧ (s.lineTable.get 5).ackMode = .off) ∧
    (let s := { lineAt chatterLine with lineTable := put State.reset.lineTable 5 { LineEntry.reset with ackMode := .both } }
     (s.lineTable.get 5).ackMode ≠ .off) := by decide +kernel

/-- With F5 legal and its normal level LOW, every line of the state is. -/
theorem lineAt_legal {x : LineState} (h : x.legal .low) (l : LineId) :
    ((lineAt x).lines.get l).legal ((lineAt x).lineTable.get l).normal := by
  have others : ∀ k, State.reset.lines.get k = lowLine ∧ (State.reset.lineTable.get k).normal = .low := by decide +kernel
  have low : lowLine.legal .low := ⟨rfl, rfl, rfl, rfl, rfl, rfl, rfl⟩
  unfold lineAt
  rw [setLine_lines, setLine_lineTable, (others l).2]
  by_cases e : l = 5
  · subst e; rw [get_put_same]; exact h
  · rw [get_put_other _ _ _ _ e, (others l).1]; exact low

theorem test_hyps_LinesLegalAfterEveryStep :
    (∀ x ∈ [settlingLine, normalLine, departing, offnormalLine, returning, chatterLine],
      (∀ l, ((lineAt x).lines.get l).legal ((lineAt x).lineTable.get l).normal) ∧ ∃ t, step (lineAt x) = .next t) := by
  simp only [List.forall_mem_cons]
  refine ⟨?_, ?_, ?_, ?_, ?_, ?_, fun _ h => nomatch h⟩ <;> refine ⟨lineAt_legal ?_, _, rfl⟩
  · exact ⟨rfl, rfl, rfl, rfl, rfl, rfl⟩
  · exact ⟨rfl, rfl, rfl, rfl, rfl, rfl⟩
  · exact ⟨rfl, rfl, rfl, rfl, rfl, rfl⟩
  · exact ⟨rfl, rfl, rfl, rfl, rfl, rfl⟩
  · exact ⟨rfl, rfl, rfl, rfl, rfl, rfl⟩
  · exact ⟨rfl, rfl, rfl, rfl, rfl, rfl, rfl⟩

theorem test_hyps_ResolutionFindsTheFirstOut :
    let x := (groupAt resolvingGroup).groups.get 2
    x.phase = .resolving ∧ x.timer.isSome = true ∧ x.candidates ≠ [] ∧ (x.candidates.map Candidate.line).Nodup ∧
      14 ≤ (groupAt resolvingGroup).store.free ∧ (groupAt resolvingGroup).store.loss = none := by decide +kernel

theorem test_hyps_GroupTakesDeparturesAndReset :
    ((FirstOutGroup.cleared 10).phase = .clear ∧ (FirstOutGroup.cleared 10).window ≠ 0 ∧ (FirstOutGroup.cleared 0).window = 0) ∧
    (resolvingGroup.phase = .resolving ∧ (∀ d ∈ resolvingGroup.candidates, d.line ≠ (cand 2 9).line) ∧
      ∃ d ∈ resolvingGroup.candidates, d.line = (cand 4 9).line) ∧
    trippedGroup.phase = .tripped ∧
    (let s := args 2 0 (groupAt trippedGroup)
     s.inReset = false ∧ s.slots.control.arg0.toNat = 2 ∧ (s.groups.get 2).phase = .tripped ∧ s.store.loss = none ∧
       12 ≤ s.store.free) ∧
    (let s := args 7 0 State.reset
     s.slots.control.arg0.toNat = 7 ∧ (s.groups.get 7).phase = .clear) ∧
    ((args 2 0 (groupAt resolvingGroup)).groups.get 2).phase = .resolving := by decide +kernel

/-- With G2 legal, every group of the state is. -/
theorem groupAt_legal {x : FirstOutGroup} (h : x.legal) (g : GroupId) : ((groupAt x).groups.get g).legal := by
  have others : ∀ k, State.reset.groups.get k = FirstOutGroup.cleared 0 := by decide +kernel
  unfold groupAt
  rw [setGroup_groups]
  by_cases e : g = 2
  · subst e; rw [get_put_same]; exact h
  · rw [get_put_other _ _ _ _ e, others]; exact rfl

theorem test_hyps_GroupsLegalAfterEveryStep :
    ((∀ g, ((groupAt resolvingGroup).groups.get g).legal) ∧ ∃ t, step (groupAt resolvingGroup) = .next t) ∧
    ∀ g, ((groupAt trippedGroup).groups.get g).legal :=
  ⟨⟨groupAt_legal (show resolvingGroup.candidates ≠ [] ∧ (resolvingGroup.candidates.map Candidate.line).Nodup ∧
      resolvingGroup.timer.isSome ∧ resolvingGroup.firstOut = none by decide +kernel), _, rfl⟩,
    groupAt_legal ⟨rfl, rfl, rfl⟩⟩

theorem test_hyps_RuleEnableAndDisable :
    (let s := args 15 0 State.reset
     s.inReset = false ∧ s.slots.control.arg0.toNat = 15 ∧ (s.rules.get 15).enabled = false) ∧
    (let s := args 3 0 (ruleAt (ruleOf [contextOf, contextOf]))
     s.slots.control.arg0.toNat = 3 ∧ (s.rules.get 3).enabled = true ∧ (s.rules.get 3).contexts ≠ [] ∧
       s.store.loss = none ∧ 10 * (s.rules.get 3).contexts.length + 5 ≤ s.store.free) := by decide +kernel

theorem test_hyps_ContextsEndByLapseOrMatch :
    (let s := ruleAt (ruleOf [contextOf, contextOf])
     s.inReset = false ∧ s.clockRunning = true ∧ (s.rules.get 3).contexts[1]? = some contextOf ∧
       (s.rules.get 3).recordLapses = false ∧ s.store.loss = none ∧ 15 ≤ s.store.free ∧ (s.rules.get 3).action = none) ∧
    (({ ruleOf [contextOf] with recordLapses := true, action := some 3 }).recordLapses = true ∧
      ({ ruleOf [contextOf] with recordLapses := true, action := some 3 }).action = some 3) := by decide +kernel

/-- A departure of F0 at the engine. -/
def lineEvent : CorrEvent := ⟨0, .depart, ⟨8, .free⟩, false, none⟩

/-- A rule in which no line event of F0 advances a context, all its steps those of F9. -/
def otherSteps (cs : List CorrContext) : CorrRule := { ruleOf cs with steps := Vector.replicate 4 ⟨9, .depart⟩ }

/-- An unordered rule at its limit, its one context past its deadline at this event. -/
def lateRule : CorrRule := { ruleOf [{ contextOf with deadline := 7 }] with ordered := false, limit := 1 }

theorem test_hyps_ContextsEndByLapseOrMatch_events :
    (∀ q : Fin 4, (contextOf.steps.get q).isSome = decide (q.val < 1)) ∧
    (contextOf.steps.get 0 = some ⟨some 1, at7, false⟩ ∧ (0 : Fin 4).val + 1 = 1 ∧ (ruleOf [contextOf]).ordered = true) ∧
    ((ruleOf [contextOf]).accepts lineEvent contextOf = some 1 ∧ lateRule.ordered = false ∧
      lateRule.accepts lineEvent contextOf = some 1) ∧
    ((ruleOf [contextOf]).stepCount = 2 ∧ ({ ruleOf [contextOf] with stepCount := 3 }).stepCount = 3) ∧
    (CorrRule.reset.enabled = false ∧ (otherSteps [contextOf]).enabled = true ∧
      (∀ c ∈ (otherSteps [contextOf]).contexts, (otherSteps [contextOf]).accepts lineEvent c = none) ∧
      (otherSteps [contextOf]).startPosition lineEvent = none) ∧
    ((∀ c ∈ lateRule.contexts, lateRule.accepts lineEvent c = none) ∧ lateRule.startPosition lineEvent = some 0 ∧
      lateRule.limit ≤ lateRule.contexts.length) ∧
    ((ruleOf []).startPosition lineEvent = some 0 ∧ (ruleOf []).contexts.length < (ruleOf []).limit ∧
      (ruleAt (ruleOf [])).openContexts < 24) ∧
    (let s := { (ruleAt (ruleOf [])) with rules := (Vector.replicate 16 (ruleOf [contextOf, contextOf])).set 3 (ruleOf []) }
     24 ≤ s.openContexts ∧ s.exhausted = false ∧ ({ s with exhausted := true } : State).exhausted = true) ∧
    ((1000008 : Timestamp).toNat =
      min 0xFFFFFFFFFFFF (lineEvent.stamp.time.toNat + 1000 * (ruleOf []).window.toNat)) := by decide +kernel

/-- Nothing, one thing and two things lapse at once after an event (R110). -/
theorem test_hyps_ContextsEndByLapseOrMatch_lapses :
    (visitRules lineEvent (List.finRange 16) State.reset).2 = [] ∧
    (let t := { TimeBase.reset with counter := 1000008 }
     let s := { ruleAt (ruleOf []) with time := t }
     (visitRules lineEvent (List.finRange 16) s).2 = [(3, 0)] ∧
       (visitRules lineEvent (List.finRange 16) (s.setRule 9 (ruleOf []))).2 = [(3, 0), (9, 0)]) := by decide +kernel

/-- An ordered rule advances to its match, and a refused start with the pool full sets the cause (R112, R114, R117). -/
theorem test_correlate :
    (let t := correlate lineEvent (ruleAt (ruleOf [contextOf]))
     t.rules.get 3 = { ruleOf [] with matchCount := 1 } ∧
       t.store.records.getLast? = some ⟨1, lineEvent.stamp, false,
         .matched 3 2 (put (Vector.replicate 4 none) 0 (some 1))⟩) ∧
    (let s := { (ruleAt (ruleOf [])) with rules := (Vector.replicate 16 (otherSteps [contextOf, contextOf])).set 3 (ruleOf []) }
     let t := correlate lineEvent s
     t.rules.get 3 = { ruleOf [] with missedStarts := 1 } ∧ t.exhausted = true ∧ t.causeSet .contextsExhausted = true) := by
  decide +kernel

theorem test_hyps_RulesLegalAfterEveryStep :
    ((∀ r, ((ruleAt (ruleOf [contextOf, contextOf])).rules.get r).legal) ∧
      (ruleAt (ruleOf [contextOf, contextOf])).poolLegal) ∧ ∃ t, step (ruleAt (ruleOf [contextOf, contextOf])) = .next t :=
  ⟨⟨by unfold CorrRule.legal; decide +kernel, by unfold State.poolLegal; decide +kernel⟩, _, rfl⟩

/-- A departure of F5 at the Alarm List. -/
def eventOf : AlarmEvent := ⟨5, 2, at7, false, some 3⟩

theorem test_hyps_AlarmEntryFollowsTheLine :
    State.reset.alarmOf eventOf.line = none ∧
    (alarmsAt [entryOf .returned none]).alarmOf eventOf.line = some (entryOf .returned none) ∧
    (alarmsAt [entryOf .alert none]).alarmOf eventOf.line = some (entryOf .alert none) ∧
    (let s := alarmsAt [entryOf .acked none]
     s.alarmOf eventOf.line = some (entryOf .acked none) ∧ (s.lineTable.get eventOf.line).ackMode ≠ .both) ∧
    (let s := { alarmsAt [entryOf .acked none] with
       lineTable := put State.reset.lineTable 5 { LineEntry.reset with ackMode := .both } }
     (s.lineTable.get eventOf.line).ackMode = .both ∧ s.outputs.handed = s.alarms.summaries) ∧
    (let s := args 5 0 (lineAt departing)
     s.inReset = false ∧ s.slots.control.arg0.toNat = 5 ∧ (s.lines.get 5).cond ≠ .disarmed ∧
       (s.lineTable.get 5).ackMode = .off) ∧
    (let s := { args 5 0 (lineAt departing) with
       lineTable := put State.reset.lineTable 5 { LineEntry.reset with ackMode := .depart } }
     (s.lineTable.get 5).ackMode ≠ .off) := by decide +kernel

/-- A chatter off at normal clears the flag and returns the entry; a withdrawal removes it (R135, R136). -/
theorem test_alarmChatterOff_and_withdraw :
    (alarmChatterOff eventOf true (alarmsAt [{ entryOf .alert (some 9) with chatter := true }])).alarmOf 5 =
      some (entryOf .returned none) ∧
    (alarmWithdraw 5 (alarmsAt [entryOf .acked none])).alarms.entries = [] := by decide +kernel

theorem test_hyps_AckLineActsOnTheEntry :
    (let s := archiveArgs 5 9 (alarmsAt [entryOf .alert (some 9)])
     s.inReset = false ∧ (s.slots.get .archive).arg0.toNat = 5 ∧ s.alarmOf 5 = some (entryOf .alert (some 9)) ∧
       s.alarms.ackRecording = true ∧ s.store.loss = none ∧ 12 ≤ s.store.free) ∧
    (let s := alarmsAt [entryOf .returned none]
     s.alarmOf 5 = some (entryOf .returned none) ∧
       ({ s with alarms := { s.alarms with ackRecording := false } } : State).alarms.ackRecording = false) ∧
    (alarmsAt [entryOf .acked none]).alarmOf 5 = some (entryOf .acked none) ∧ State.reset.alarmOf 31 = none := by
  decide +kernel

theorem test_hyps_AckAllVisitsEveryEntry :
    (let s := alarmsAt [entryOf .alert none, { entryOf .acked none with line := 9 }]
     s.inReset = false ∧ (s.alarms.entries.map AlarmEntry.line).Nodup ∧ ∃ e ∈ s.alarms.entries, e.phase ≠ .acked) ∧
    (let s := alarmsAt [entryOf .alert none, { entryOf .returned none with line := 9 }]
     (s.alarms.entries.filter fun e => decide (e.phase ≠ .acked)).length = 2 ∧ s.alarms.ackRecording = true ∧
       s.store.loss = none ∧ 7 * 2 + 5 ≤ s.store.free) ∧
    (∀ e ∈ (alarmsAt [entryOf .acked none]).alarms.entries, e.phase = .acked) := by decide +kernel

theorem test_hyps_SilenceSetsTheFlags :
    let s := alarmsAt [entryOf .alert none]
    s.inReset = false ∧ s.store.loss = none ∧ 11 ≤ s.store.free := by decide +kernel

theorem test_hyps_EscalationRaisesThePriority :
    let s := alarmsAt [{ entryOf .alert (some 9) with priority := 3 }]
    s.inReset = false ∧ s.clockRunning = true ∧ s.alarmOf 5 = some { entryOf .alert (some 9) with priority := 3 } ∧
      (3 : Fin 4).val = min 3 ((3 : Fin 4).val + 1) ∧ (2 : Fin 4).val = min 3 ((1 : Fin 4).val + 1) ∧ s.store.loss = none ∧
      11 ≤ s.store.free := by decide +kernel

theorem test_hyps_AlarmsLegalAfterEveryStep :
    let s := alarmsAt [entryOf .alert (some 9), { entryOf .returned none with line := 9 }]
    s.alarms.legal ∧ s.outputs.handed = summariesOf s.alarms.entries ∧ ∃ t, step s = .next t :=
  ⟨by unfold AlarmList.legal; decide +kernel, by decide +kernel, _, rfl⟩

theorem test_hyps_PulseCommandRequests :
    (let s := args 3 0 (outputAt (pulseOf .idle none 0 .queue))
     s.inReset = false ∧ s.slots.control.arg0.toNat = 3 ∧ (s.outputs.lines.get 3).mode = .pulse ∧
       (s.outputs.lines.get 3).phase = .idle) ∧
    (pulseOf .pulsing (some 9) 0 .restart).retrigger = .restart ∧
    (let o := pulseOf .gap (some 9) 14 .queue
     o.phase ≠ .idle ∧ o.retrigger = .queue ∧ o.queued < 15) ∧ 15 ≤ (pulseOf .pulsing (some 9) 15 .queue).queued ∧
    OutputLine.reset.mode ≠ .pulse := by decide +kernel

theorem test_hyps_PulseTimersAndFlashPhase :
    (let s := outputAt (pulseOf .pulsing (some 9) 0 .queue)
     s.inReset = false ∧ s.clockRunning = true ∧ (s.outputs.lines.get 3).phase = .pulsing ∧
       (s.outputs.lines.get 3).timer.isSome = true ∧ (s.outputs.lines.get 3).retrigger = .queue) ∧
    (let o := pulseOf .pulsing (some 9) 0 .restart
     o.timer.isSome = true ∧ o.retrigger = .restart ∧ o.queued = 0) ∧
    (let o := pulseOf .gap (some 9) 1 .queue
     o.phase = .gap ∧ o.timer.isSome = true ∧ o.queued ≠ 0) ∧ (pulseOf .gap (some 9) 0 .queue).queued = 0 ∧
    State.reset.outputs.flash < 1000000 := by decide +kernel

theorem test_hyps_OutputPinFollowsModeAndDrive :
    OutputLine.reset.mode = .direct ∧ OutputLine.reset.drive = .highZ ∧ (pulseOf .idle none 0 .queue).mode = .pulse ∧
    ({ OutputLine.reset with mode := .lamp, drive := .pushPull }).mode = .lamp ∧
    ({ OutputLine.reset with mode := .horn, drive := .openDrain }).drive = .openDrain := by decide +kernel

theorem test_hyps_OutputsLegalAfterEveryStep :
    (∀ q, ((outputAt (pulseOf .gap (some 9) 15 .queue)).outputs.lines.get q).legal) ∧
      ∃ t, step (outputAt (pulseOf .gap (some 9) 15 .queue)) = .next t :=
  ⟨by unfold OutputLine.legal; decide +kernel, _, rfl⟩

theorem test_hyps_PortReadsReturnAndStep :
    (State.reset.inReset = false ∧ State.reset.tableStatus = none ∧ State.reset.ports.control = ⟨0, 0, 0⟩ ∧
      tableShape 0 = some (32, 10)) ∧
    (let s := { State.reset with ports := ⟨⟨0, 31, 9⟩, ⟨8, 0, 7⟩⟩, tableStatus := some .badOperand }
     s.ports.control = ⟨0, 31, 9⟩ ∧ s.ports.archive = ⟨8, 0, 7⟩ ∧ tableShape 8 = some (1, 8) ∧
       s.tableStatus = some .badOperand) := by decide +kernel

/-- The words of entries and pages: a line with no entry and one with, at its place; a group in each state; a pending loss. -/
theorem test_hyps_PortReadsReturnAndStep_words :
    (let s := alarmsAt [{ entryOf .alert none with line := 9 }, entryOf .returned (some 9)]
     s.alarmOf 31 = none ∧ (s.alarms.entries.map AlarmEntry.line).Nodup ∧
       s.alarms.entries[1]? = some (entryOf .returned (some 9))) ∧
    (FirstOutGroup.cleared 10).legal ∧ (FirstOutGroup.cleared 10).phase = .clear ∧ resolvingGroup.firstOut = none ∧
    trippedGroup.firstOut = some ⟨4, at7, none⟩ ∧ State.reset.store.loss = none ∧
    ({ State.reset.store with loss := some lossOf }).loss = some lossOf :=
  ⟨by decide +kernel, rfl, rfl, rfl, rfl, rfl, rfl⟩

/-- A LINE entry's status: F5 in DEPARTING under test; an entry second in the list, RETURNED; a line view (Table 43, R199). -/
theorem test_tableWord_status :
    (lineAt { departing with injected := some .high }).tableWord ⟨0, 5, 2⟩ = 0x003B ∧
    (alarmsAt [{ entryOf .alert none with line := 9 }, entryOf .returned none]).tableWord ⟨0, 5, 4⟩ / 0x400 = 2 ∧
    (groupAt trippedGroup).tableWord ⟨2, 2, 1⟩ = 0x2402 ∧ (lineAt offnormalLine).tableWord ⟨7, 0, 2⟩ = 0x0020 := by
  decide +kernel

theorem test_hyps_AddressWritesNameExistingWords :
    (tableShape ((0x31F3 : Word).toNat / 4096 % 16) = some (16, 11) ∧ ¬((0x31F3 : Word).toNat / 16 % 32 < 16)) ∧
    (tableShape ((0x01F9 : Word).toNat / 4096 % 16) = some (32, 10) ∧ (0x01F9 : Word).toNat / 16 % 32 < 32 ∧
      (0x01F9 : Word).toNat % 16 < 10) ∧ tableShape ((0x9000 : Word).toNat / 4096 % 16) = none ∧
    (∀ h ∈ [Half.control, .archive], (State.reset.ports.get h).valid = true) := by decide +kernel

theorem test_hyps_PortAddressesStayValid :
    let s := { State.reset with ports := ⟨⟨3, 15, 10⟩, ⟨8, 0, 7⟩⟩ }
    (∀ h, (s.ports.get h).valid = true) ∧ ∃ t, step s = .next t :=
  ⟨fun h => by cases h <;> decide +kernel, _, rfl⟩

theorem test_hyps_TableDataWriteIsJudged :
    (State.reset.ports.control.valid = true ∧ writeTable State.reset ⟨0, 0, 0⟩ 0x0030 = .refused .badOperand) ∧
    writeTable State.reset ⟨6, 0, 0⟩ 1 = .ignored ∧
    (∃ u, writeTable State.reset ⟨1, 3, 0⟩ 7 = .accepted u) ∧
    (let s := lineAt departing
     (s.lines.get (Fin.ofNat 32 5)).cond ≠ .disarmed ∧ ∃ l, (s.lines.get l).cond ≠ .disarmed ∧
       (s.lineTable.get l).profile = Fin.ofNat 4 0) ∧
    ((groupAt trippedGroup).groups.get (Fin.ofNat 8 2)).phase ≠ .clear ∧
    ((ruleAt (ruleOf [])).rules.get (Fin.ofNat 16 3)).enabled = true ∧ (State.reset.groups.get (Fin.ofNat 8 7)).phase = .clear :=
  ⟨by decide +kernel, by decide +kernel, ⟨_, rfl⟩, by decide +kernel, by decide +kernel, by decide +kernel, by decide +kernel⟩

/-- Each table has a word that its ranges refuse and one that they accept, at its first and its last entry. -/
theorem test_hyps_TableDataWriteIsJudged_ranges :
    (State.reset.lines.get 31).cond = .disarmed ∧ (∀ l, (State.reset.lines.get l).cond = .disarmed) ∧
    (State.reset.rules.get 15).enabled = false ∧ (State.reset.lineTable.get 31).setWord0 0x30 = none ∧
    ((State.reset.lineTable.get 31).setWord1 0x8 = none ∧ ((State.reset.lineTable.get 0).setWord1 0xF07).isSome = true) ∧
    ((State.reset.lineTable.get 0).setWord0 0x20).isSome = true ∧
    ((State.reset.profiles.get 3).setWord 1 1 = none ∧ ((State.reset.profiles.get 0).setWord 3 1).isSome = true) ∧
    ((State.reset.rules.get 15).setWord 5 0 = none ∧ ((State.reset.rules.get 0).setWord 6 0).isSome = true) ∧
    ((State.reset.outputs.lines.get 7).setWord 2 0 = none ∧ ((State.reset.outputs.lines.get 0).setWord 0 3).isSome = true) ∧
    ((State.reset.alarms.escalation.get 3).setWord 1 14 = none ∧
      ((State.reset.alarms.escalation.get 0).setWord 0 4095).isSome = true) ∧
    ([⟨0, 31, 1⟩, ⟨1, 3, 3⟩, ⟨3, 15, 6⟩, ⟨4, 7, 2⟩, ⟨5, 3, 1⟩, ⟨8, 0, 7⟩] : List PortAddress).all PortAddress.valid = true := by
  decide +kernel

theorem test_hyps_AcceptedWordsReadBack :
    (∃ x, LineEntry.reset.setWord0 0x3FCF = some x) ∧ (∃ x, LineEntry.reset.setWord1 0x0F70 = some x) ∧
    (∃ x, Profile.reset.setWord 1 15 = some x) ∧ (∃ x, CorrRule.reset.setWord 0 0x0F9C = some x) ∧
    (∃ x, CorrRule.reset.setWord 4 0x3F = some x) ∧ (∃ x, OutputLine.reset.setWord0 0x017B = some x) ∧
    (∃ x, EscalationEntry.setWord ⟨0, none⟩ 0 4095 = some x) ∧
    (∃ x, OutputLine.reset.setWord 0 3 = some x ∧ x.mode ≠ OutputLine.reset.mode) ∧
    (∃ x, OutputLine.reset.setWord 0 0x100 = some x ∧ x.mode = OutputLine.reset.mode) ∧
    (∃ x, OutputLine.reset.setWord 1 1 = some x) ∧ (∃ x, OutputLine.reset.setWord 2 0xFFFF = some x) :=
  ⟨⟨_, rfl⟩, ⟨_, rfl⟩, ⟨_, rfl⟩, ⟨_, rfl⟩, ⟨_, rfl⟩, ⟨_, rfl⟩, ⟨_, rfl⟩, ⟨_, rfl, by decide⟩, ⟨_, rfl, rfl⟩, ⟨_, rfl⟩, ⟨_, rfl⟩⟩

/-- Record words written out from Tables 45 and 46: a LINE with its mask, and a LAPSE with one reference. -/
theorem test_record_words :
    Record.words ⟨9, ⟨0x000100020003, .locked⟩, true, .line 31 .giveBack 10 2 none (some 0x80000001)⟩ =
      [0x1A61, 9, 1, 2, 3, 0xFABF, 0x0001, 0x8000] ∧
    Record.words ⟨10, ⟨7, .free⟩, false, .lapsed 3 .disabled #v[false, true, false, false] #v[none, some 77, none, none]⟩ =
      [0x2049, 10, 0, 0, 7, 0x0213, 77] := by decide +kernel

theorem test_hyps_RefusedCommandsChangeOnlyTheSlot :
    State.reset.inReset = false ∧ 32 ≤ (args 32 2 State.reset).slots.control.arg0.toNat ∧
    32 ≤ (archiveArgs 32 0 State.reset).slots.archive.arg0.toNat ∧ 2 ≤ (args 32 2 State.reset).slots.control.arg1.toNat ∧
    16 ≤ (args 16 0 State.reset).slots.control.arg0.toNat ∧ 8 ≤ (args 8 0 State.reset).slots.control.arg0.toNat ∧
    (0x0122 : Word) ∉ commandCodes := by decide +kernel

theorem test_hyps_DirectWritesReachTheirWord :
    State.reset.inReset = false ∧ (Instr.registerWrite 39 1).wf = true ∧
      (39 : WordId) ∉ ([2, 3, 34, 35, 15, 16, 17, 18] : List WordId) := by decide +kernel

/-- The words read: RESETn asserted; a half's valid port, TABLE STATUS with and without a reason, a cursor at end and one on a
record. -/
theorem test_hyps_DirectWritesReachTheirWord_reads :
    State.held.inReset = true ∧ (State.reset.ports.get .archive).valid = true ∧ State.reset.tableStatus = none ∧
    ({ State.reset with tableStatus := some .tableInUse }).tableStatus = some .tableInUse ∧
    State.reset.cursorRecord .archive = none ∧
    (let s := channelAt (reading 1 3) State.reset
     (s.channels.get .control).enabled = true ∧ s.cursorRecord .control = some Record.afterReset) := by decide +kernel

/-- The lines that leave SETTLING at once on a RESTART, as the statement says them. -/
def leavesAtOnce (s : State) (l : LineId) : Bool :=
  (s.lines.get l).cond ≠ .disarmed ∧ (s.profiles.get (s.lineTable.get l).profile).checkTime = 0

theorem test_hyps_RestartReturnsToAKnownBeginning :
    (let s := lineWith 1 0 departing
     s.inReset = false ∧ (∀ l, leavesAtOnce s l = true ↔ (s.lines.get l).cond ≠ .disarmed ∧
       (s.profiles.get (s.lineTable.get l).profile).checkTime = 0) ∧ (∀ l, leavesAtOnce s l = false) ∧
       (s.lines.get 5).cond ≠ .disarmed) ∧
    (let s := lineWith 0 0 departing
     leavesAtOnce s 5 = true ∧ (s.lines.get 31).cond = .disarmed) := by decide +kernel

/-- RESTART of a channel torn at offset 3 with LOSS and MISSED set: its flags are clear but READY, its missed count stands. -/
theorem test_restart_channel :
    let c := { reading 1 3 with holdoff := 2, missed := 4, emptyRead := true }
    let u := run (.restart .control) (raiseChannel .control .loss (raiseChannel .control .missed (channelAt c State.reset)))
    u.channels.get .control = { c with unread := 1, offset := 0, torn := true, holdoffTimer := some 2000 } ∧
      u.irq.channel.control.flags = #v[true, false, false, false] := by decide +kernel

end Sys2Proof.Tests
end

/-! PROOFS. Lines: what each operation of the conditioner leaves in its own line. -/
namespace Sys2Proof

/-- Of two levels, the one that is not a given level is the other. -/
theorem Level.eq_flip_of_ne {a b : Level} (h : a ≠ b) : a = b.flip := by
  revert h
  cases a <;> cases b <;> decide

@[simp] theorem Level.flip_flip (a : Level) : a.flip.flip = a := by cases a <;> rfl

end Sys2Proof

namespace Sys2Proof.Machine

/-! ## The configuration an event leaves -/

theorem OnlyEvents.profileOf {s t : State} (h : OnlyEvents s t) (l : LineId) : t.profileOf l = s.profileOf l := by
  rw [State.profileOf, State.profileOf, h.profiles, h.lineTable]

theorem OnlyEvents.inMillis {s t : State} (h : OnlyEvents s t) (n : Nat) : t.inMillis n = s.inMillis n := by
  rw [State.inMillis, State.inMillis, h.time]

@[simp] theorem setLine_profileOf (s : State) (l k : LineId) (x : LineState) :
    (s.setLine l x).profileOf k = s.profileOf k := rfl

@[simp] theorem setLine_now (s : State) (l : LineId) (x : LineState) : (s.setLine l x).now = s.now := rfl

@[simp] theorem setLine_inMillis (s : State) (l : LineId) (x : LineState) (n : Nat) :
    (s.setLine l x).inMillis n = s.inMillis n := rfl

@[simp] theorem setLine_checkExpires (s : State) (l k : LineId) (x : LineState) :
    (s.setLine l x).checkExpires k = s.checkExpires k := rfl

/-- The later of two writes of a line stands. -/
@[simp] theorem setLine_setLine (s : State) (l : LineId) (x y : LineState) : (s.setLine l x).setLine l y = s.setLine l y := by
  unfold State.setLine
  rw [put_put_same]

/-- The check time has run out at once exactly where it is 0. -/
theorem checkTime_zero_iff (elapsed : Nat) (w : Word) : elapsed + 100 * w.toNat = elapsed ↔ w = 0 := by
  constructor
  · intro h
    have zero : w.toNat = 0 := by omega
    exact BitVec.eq_of_toNat_eq zero
  · rintro rfl; rfl

/-! ## Chatter supervision (section 1.7) -/

/-- With no chatter limit a transition is not counted (R12). -/
theorem countTransition_unlimited {l : LineId} {edge : Stamp} {s : State} (none_ : (s.profileOf l).chatterLimit = 0) :
    countTransition l edge s = s := by
  simp [countTransition, none_]

/-- Below the limit the count goes into the window (R12). -/
theorem countTransition_below {l : LineId} {edge : Stamp} {s : State} {w : ChatterWindow}
    (counted : w = countedWindow (s.lines.get l).window (s.inMillis (s.profileOf l).chatterWindow.toNat))
    (below : w.count < (s.profileOf l).chatterLimit.val) :
    countTransition l edge s = s.setLine l { s.lines.get l with window := some w } := by
  subst counted
  have some_ : (s.profileOf l).chatterLimit ≠ 0 := fun e => by rw [e] at below; exact Nat.not_lt_zero _ below
  unfold countTransition
  dsimp only
  rw [if_neg some_, if_neg (by omega)]

/-- At the limit the line enters CHATTER (R13). -/
theorem countTransition_reaches {l : LineId} {edge : Stamp} {s : State} (some_ : (s.profileOf l).chatterLimit ≠ 0)
    (reached : (s.profileOf l).chatterLimit.val ≤
      (countedWindow (s.lines.get l).window (s.inMillis (s.profileOf l).chatterWindow.toNat)).count) :
    countTransition l edge s = enterChatter l edge s := by
  unfold countTransition
  dsimp only
  rw [if_neg some_, if_pos reached]

/-- What a line holds on entering CHATTER (R13). -/
def LineState.chattering (x : LineState) (edge : Stamp) (release : Nat) : LineState :=
  { x with cond := .chatter, window := none, suppressed := 0, lastChange := some edge, releaseTimer := some release }

theorem enterChatter_line (l : LineId) (edge : Stamp) (s : State) :
    (enterChatter l edge s).lines.get l =
      (s.lines.get l).chattering edge (s.inMillis (s.profileOf l).releaseTime.toNat) := by
  unfold enterChatter
  dsimp only
  rw [(classifyChatterOn_handled _ _ _ _ _).lines]
  exact get_put_same _ _ _

/-- A counted line is as it was, has another window, or is in CHATTER. -/
theorem countTransition_line (l : LineId) (edge : Stamp) (s : State) :
    (countTransition l edge s).lines.get l = s.lines.get l ∨
    (∃ w, (countTransition l edge s).lines.get l = { s.lines.get l with window := w }) ∨
    (countTransition l edge s).lines.get l =
      (s.lines.get l).chattering edge (s.inMillis (s.profileOf l).releaseTime.toNat) := by
  by_cases none_ : (s.profileOf l).chatterLimit = 0
  · exact .inl (by rw [countTransition_unlimited none_])
  · obtain ⟨w, counted⟩ : ∃ w, w = countedWindow (s.lines.get l).window
      (s.inMillis (s.profileOf l).chatterWindow.toNat) := ⟨_, rfl⟩
    by_cases below : w.count < (s.profileOf l).chatterLimit.val
    · refine .inr (.inl ⟨some w, ?_⟩)
      rw [countTransition_below counted below]
      exact get_put_same _ _ _
    · refine .inr (.inr ?_)
      rw [countTransition_reaches none_ (by rw [← counted]; exact Nat.not_lt.mp below)]
      exact enterChatter_line l edge s

/-! ## Qualification (sections 1.5 and 1.6) -/

/-- What a line holds when its departure has qualified (R9). -/
def LineState.departed (x : LineState) (normal : Level) : LineState :=
  { x with cond := .offnormal, qualified := some normal.flip, edge := none, qualTimer := none }

/-- What a line holds when its return has qualified (R10). -/
def LineState.returned (x : LineState) (normal : Level) : LineState :=
  { x with cond := .normal, qualified := some normal, edge := none, qualTimer := none }

/-- What a line holds when it has left SETTLING (R6). -/
def LineState.settled (x : LineState) (normal : Level) : LineState :=
  { x with
    cond := if x.effective = normal then .normal else .offnormal
    qualified := some x.effective
    qualTimer := none }

/-- What a line holds on its release from CHATTER (R15). -/
def LineState.released (x : LineState) (normal : Level) : LineState :=
  { x with
    cond := if x.effective = normal then .normal else .offnormal
    qualified := some x.effective
    window := none
    suppressed := 0
    lastChange := none
    releaseTimer := none }

theorem qualifySettling_line (l : LineId) (s : State) :
    (qualifySettling l s).lines.get l = (s.lines.get l).settled (s.lineTable.get l).normal := by
  unfold qualifySettling
  dsimp only
  rw [(classifyInitial_handled _ _ _ _ _).lines]
  exact get_put_same _ _ _

theorem releaseLine_line (l : LineId) (s : State) :
    (releaseLine l s).lines.get l = (s.lines.get l).released (s.lineTable.get l).normal := by
  unfold releaseLine
  dsimp only
  rw [(classifyChatterOff_handled _ _ _ _ _ _).lines]
  exact get_put_same _ _ _

/-- A departure's classifier work, before the transition is counted. -/
def handDepart (l : LineId) (edge : Stamp) (s : State) : State :=
  classifyDepart l edge (s.lines.get l).injected.isSome
    (s.setLine l ((s.lines.get l).departed (s.lineTable.get l).normal))

/-- A return's classifier work, before the transition is counted. -/
def handReturn (l : LineId) (edge : Stamp) (s : State) : State :=
  classifyReturn l edge (s.lines.get l).injected.isSome
    (s.setLine l ((s.lines.get l).returned (s.lineTable.get l).normal))

theorem qualifyDeparture_eq (l : LineId) (s : State) :
    qualifyDeparture l s = countTransition l ((s.lines.get l).edge.getD s.now)
      (handDepart l ((s.lines.get l).edge.getD s.now) s) := rfl

theorem qualifyReturn_eq (l : LineId) (s : State) :
    qualifyReturn l s = countTransition l ((s.lines.get l).edge.getD s.now)
      (handReturn l ((s.lines.get l).edge.getD s.now) s) := rfl

theorem handDepart_line (l : LineId) (edge : Stamp) (s : State) :
    (handDepart l edge s).lines.get l = (s.lines.get l).departed (s.lineTable.get l).normal := by
  unfold handDepart
  rw [(classifyDepart_handled _ _ _ _).lines]
  exact get_put_same _ _ _

theorem handReturn_line (l : LineId) (edge : Stamp) (s : State) :
    (handReturn l edge s).lines.get l = (s.lines.get l).returned (s.lineTable.get l).normal := by
  unfold handReturn
  rw [(classifyReturn_handled _ _ _ _).lines]
  exact get_put_same _ _ _

theorem handDepart_handled (l : LineId) (edge : Stamp) (s : State) : LineHandled l s (handDepart l edge s) :=
  afterSetLine (classifyDepart_handled _ _ _ _)

theorem handReturn_handled (l : LineId) (edge : Stamp) (s : State) : LineHandled l s (handReturn l edge s) :=
  afterSetLine (classifyReturn_handled _ _ _ _)

/-! ## Changes of the effective level (Table 8) -/

theorem takeChange_disarmed {l : LineId} {s : State} (c : (s.lines.get l).cond = .disarmed) : takeChange l s = s := by
  simp [takeChange, c]

theorem takeChange_settling {l : LineId} {s : State} (c : (s.lines.get l).cond = .settling) :
    takeChange l s = s.setLine l { s.lines.get l with qualTimer := some (s.checkExpires l) } := by
  simp [takeChange, c]

theorem takeChange_normal {l : LineId} {s : State} (c : (s.lines.get l).cond = .normal)
    (check : (s.profileOf l).checkTime ≠ 0) : takeChange l s = captureEdge l .departing s := by
  unfold takeChange
  rw [c]
  exact if_neg check

theorem takeChange_normal_atOnce {l : LineId} {s : State} (c : (s.lines.get l).cond = .normal)
    (check : (s.profileOf l).checkTime = 0) : takeChange l s = qualifyDeparture l (captureEdge l .departing s) := by
  simp [takeChange, c, check]

theorem takeChange_departing {l : LineId} {s : State} (c : (s.lines.get l).cond = .departing) :
    takeChange l s = bounce l .normal s := by
  simp [takeChange, c]

theorem takeChange_offnormal {l : LineId} {s : State} (c : (s.lines.get l).cond = .offnormal)
    (check : (s.profileOf l).checkTime ≠ 0) : takeChange l s = captureEdge l .returning s := by
  unfold takeChange
  rw [c]
  exact if_neg check

theorem takeChange_offnormal_atOnce {l : LineId} {s : State} (c : (s.lines.get l).cond = .offnormal)
    (check : (s.profileOf l).checkTime = 0) : takeChange l s = qualifyReturn l (captureEdge l .returning s) := by
  simp [takeChange, c, check]

theorem takeChange_returning {l : LineId} {s : State} (c : (s.lines.get l).cond = .returning) :
    takeChange l s = bounce l .offnormal s := by
  simp [takeChange, c]

theorem takeChange_chatter {l : LineId} {s : State} (c : (s.lines.get l).cond = .chatter) :
    takeChange l s = suppressChange l s := by
  simp [takeChange, c]

/-- A level that is the one last observed is no change (R1). -/
theorem observeLevel_same {l : LineId} {s : State} (h : (s.lines.get l).presentLevel = (s.lines.get l).effective) :
    observeLevel l s = s := by
  simp [observeLevel, h]

/-- A level that is not is taken as a change (R1). -/
theorem observeLevel_changed {l : LineId} {s : State} (h : (s.lines.get l).presentLevel ≠ (s.lines.get l).effective) :
    observeLevel l s =
      takeChange l (s.setLine l { s.lines.get l with effective := (s.lines.get l).presentLevel }) := by
  simp [observeLevel, h]

end Sys2Proof.Machine

/-! PROOFS. Rows: a property that every block's own operation keeps is kept by every row and by every step. The words of
the window and the codes of CMD that lead to an operation of another row are gone through here once. -/
namespace Sys2Proof.Machine

/-- Every operation that a row of the opcode table asks of a block keeps P, and so do the passing of time, the slots and
the model's own fields. The operations of accesses and timers are asked of a part out of reset. -/
structure RowsKeep (P : State → Prop) : Prop where
  pending : ∀ {s : State} (q : List Instr), P s → P { s with pending := q }
  freeIndex : ∀ {s : State} (n : Nat), P s → P { s with freeIndex := n }
  lastRead : ∀ {s : State} (w : Word), P s → P { s with lastRead := w }
  setSlot : ∀ {s : State} (h : Half) (x : Slot), P s → P (s.setSlot h x)
  tick : ∀ {s : State}, s.inReset = false → P s → P (tick s)
  sampledInReset : ∀ {s : State} (l : LineId) (v : Level), s.inReset = true → P s → P (s.setLine l (LineState.reset v))
  sampled : ∀ {s : State} (l : LineId) (v : Level), s.inReset = false → P s →
    P (observeLevel l (s.setLine l { s.lines.get l with physical := v }))
  qualifySettling : ∀ {s : State} (l : LineId), s.inReset = false → (s.lines.get l).cond = .settling → P s →
    P (qualifySettling l s)
  qualifyDeparture : ∀ {s : State} (l : LineId), s.inReset = false → (s.lines.get l).cond = .departing → P s →
    P (qualifyDeparture l s)
  qualifyReturn : ∀ {s : State} (l : LineId), s.inReset = false → (s.lines.get l).cond = .returning → P s →
    P (qualifyReturn l s)
  closeWindow : ∀ {s : State} (l : LineId), s.inReset = false → P s →
    P (s.setLine l { s.lines.get l with window := none })
  releaseLine : ∀ {s : State} (l : LineId), s.inReset = false → (s.lines.get l).cond = .chatter → P s →
    P (releaseLine l s)
  takePulse : ∀ {s : State}, s.inReset = false → s.time.syncEnable = true → P s → P (takePulse s)
  superviseEnds : ∀ {s : State}, s.inReset = false → s.time.supervision.isSome → P s →
    P (if s.time.quality = .locked then changeQuality .holdover { s with time := { s.time with supervision := none } }
      else { s with time := { s.time with supervision := none } })
  holdAbsorbed : ∀ {s : State}, s.inReset = false → P s → P { s with time := { s.time with hold := 0 } }
  resolveGroup : ∀ {s : State} (g : GroupId), s.inReset = false → (s.groups.get g).phase = .resolving → P s →
    P (resolveGroup g false s)
  lapse : ∀ {s : State} (r : RuleId) (k : Nat), s.inReset = false → P s → P (lapse .window r k s)
  escalate : ∀ {s : State} (l : LineId) (e : AlarmEntry), s.inReset = false → s.alarmOf l = some e →
    e.phase = .alert → P s → P (escalate e s)
  lengthExpires : ∀ {s : State} (q : OutputId), s.inReset = false → (s.outputs.lines.get q).phase = .pulsing → P s →
    P (s.setOutput q ((s.outputs.lines.get q).lengthExpires s.time.elapsed))
  gapExpires : ∀ {s : State} (q : OutputId), s.inReset = false → (s.outputs.lines.get q).phase = .gap → P s →
    P (s.setOutput q ((s.outputs.lines.get q).gapExpires s.time.elapsed))
  holdoffExpires : ∀ {s : State} (h : Half), s.inReset = false → (s.channels.get h).holdoffTimer.isSome → P s →
    P (raiseChannel h .ready (s.setChannel h { s.channels.get h with holdoffTimer := none }))
  flashPhase : ∀ {s : State}, s.inReset = false → P s →
    P { s with outputs := { s.outputs with flash := nextFlashBoundary s.outputs.flash } }
  readChannelData : ∀ {s : State} (h : Half), s.inReset = false → P s → P (readChannelData h s)
  statusTaken : ∀ {s : State} (h : Half), s.inReset = false → P s → P (s.setChannel h (s.channels.get h).statusTaken)
  latchTime : ∀ {s : State} (h : Half), s.inReset = false → P s → P (latchTime h s)
  stepPort : ∀ {s : State} (h : Half), s.inReset = false → P s → P (stepPort h s)
  clearTableStatus : ∀ {s : State}, s.inReset = false → P s → P { s with tableStatus := none }
  writeTableData : ∀ {s : State} (w : Word), s.inReset = false → P s → P (writeTableData w s)
  writePortAddress : ∀ {s : State} (h : Half) (w : Word), s.inReset = false → P s → P (writePortAddress h w s)
  writeStoreControl : ∀ {s : State} (w : Word), s.inReset = false → P s → P (writeStoreControl w s)
  writeTimeControl : ∀ {s : State} (w : Word), s.inReset = false → P s → P (writeTimeControl w s)
  writeTolerance : ∀ {s : State} (w : Word), s.inReset = false → P s → P (writeTolerance w s)
  writeStepLimit : ∀ {s : State} (w : Word), s.inReset = false → P s → P (writeStepLimit w s)
  writeSetHigh : ∀ {s : State} (w : Word), s.inReset = false → P s → P (writeSetHigh w s)
  writeAckRecording : ∀ {s : State} (w : Word), s.inReset = false → P s → P (writeAckRecording w s)
  writeOutputData : ∀ {s : State} (w : Word), s.inReset = false → P s → P (writeOutputData w s)
  writeThreshold : ∀ {s : State} (h : Half) (w : Word), s.inReset = false → P s → P (writeThreshold h w s)
  writeHoldoff : ∀ {s : State} (h : Half) (w : Word), s.inReset = false → P s → P (writeHoldoff h w s)
  writeChannelCauses : ∀ {s : State} (h : Half) (w : Word), s.inReset = false → P s → P (writeChannelCauses h w s)
  writeSystemCauses : ∀ {s : State} (h : Half) (w : Word), s.inReset = false → P s → P (writeSystemCauses h w s)
  writeSystemRoutes : ∀ {s : State} (w : Word), s.inReset = false → P s → P (writeSystemRoutes w s)
  armLine : ∀ {s : State} (l : LineId), s.inReset = false → (s.lines.get l).cond = .disarmed → P s → P (armDisarmed l s)
  disarmLine : ∀ {s : State} (l : LineId), s.inReset = false → (s.lines.get l).cond ≠ .disarmed → P s →
    P (disarmArmed l s)
  injectLevel : ∀ {s : State} (l : LineId) (v : Option Level), s.inReset = false →
    (s.lines.get l).cond ≠ .disarmed → P s → P (injectLevel l v s)
  clearGroup : ∀ {s : State} (g : GroupId), s.inReset = false → (s.groups.get g).phase = .tripped → P s →
    P (clearGroup g s)
  ruleEnable : ∀ {s : State} (r : RuleId), s.inReset = false → P s → P (ruleEnable r s).2
  disableRule : ∀ {s : State} (r : RuleId), s.inReset = false → P s → P (disableRule r s)
  setCounter : ∀ {s : State} (v : Timestamp), s.inReset = false → P s → P (setCounter v s)
  takeSnapshot : ∀ {s : State}, s.inReset = false → P s → P (takeSnapshot s)
  clearStore : ∀ {s : State}, s.inReset = false → P s → P (clearStore s)
  requestPulse : ∀ {s : State} (q : OutputId), s.inReset = false → P s → P (requestPulse q s)
  ackLine : ∀ {s : State} (tag : Word) (h : Half) (l : LineId), s.inReset = false → P s → P (ackLine tag h l s).2
  ackAll : ∀ {s : State} (tag : Word) (h : Half), s.inReset = false → P s → P (ackAll tag h s).2
  silenceEntries : ∀ {s : State} (h : Half), s.inReset = false → P s → P (silenceEntries h s)
  mark : ∀ {s : State} (note : Word) (h : Half), s.inReset = false → P s → P (report s.now false (.mark note h) s)
  restartPart : ∀ {s : State}, s.inReset = false → P s → P (restartPart s)
  enableFromOldest : ∀ {s : State} (h : Half), s.inReset = false → P s → P (enableFromOldest h s).2
  enableFromNext : ∀ {s : State} (h : Half), s.inReset = false → P s → P (enableFromNext h s).2
  disableChannel : ∀ {s : State} (h : Half), s.inReset = false → P s → P (disableChannel h s).2
  skipRecord : ∀ {s : State} (h : Half), s.inReset = false → P s → P (skipRecord h s).2
  rereadRecord : ∀ {s : State} (h : Half), s.inReset = false → P s → P (rereadRecord h s).2
  holdInReset : ∀ {s : State}, P s → P (holdInReset s)
  releaseReset : ∀ {s : State}, P s → P (releaseReset s)

/-! ## When something is taken -/

theorem live_keeps {P : State → Prop} {s t : State} (stays : P s) (acts : s.inReset = false → P t) : P (live s t) := by
  cases on : s.inReset
  · rw [live_running t on]; exact acts on
  · rw [live_reset t on]; exact stays

/-- Where time passes RESETn is not asserted and CLK runs (R183, R203). -/
theorem running_of_not_stopped {s : State} (h : ¬(s.inReset || !s.clockRunning) = true) :
    s.inReset = false ∧ s.clockRunning = true := by simpa using h

theorem timed_keeps {P : State → Prop} {s t : State} (stays : P s) (acts : s.inReset = false → P t) : P (timed s t) := by
  unfold timed
  split
  · exact stays
  · next off => exact acts (running_of_not_stopped off).1

theorem RowsKeep.readStrobe {P : State → Prop} (k : RowsKeep P) {s t : State} (w : Word) (stays : P s)
    (acts : s.inReset = false → P t) : P (readStrobe s w t) := by
  cases on : s.inReset
  · rw [readStrobe_running w t on]; exact k.lastRead w (acts on)
  · rw [readStrobe_reset w t on]; exact k.lastRead 0 stays

theorem controlOnly_keeps {P : State → Prop} {s : State} (h : Half) {r : ResultCode × State} (stays : P s) (acts : P r.2) :
    P (controlOnly h s r).2 := by
  cases h
  · exact acts
  · exact stays

theorem withOperand_keeps {P : State → Prop} {α : Type} {s : State} (o : Option α) {act : α → ResultCode × State}
    (stays : P s) (acts : ∀ x, P (act x).2) : P (withOperand o s act).2 := by
  cases o with
  | none => exact stays
  | some x => exact acts x

section
variable {P : State → Prop} (k : RowsKeep P) {s : State}
include k

/-! ## The commands of CMD (Table 41) -/

theorem RowsKeep.armLineResult (l : LineId) (on : s.inReset = false) (h : P s) : P (Machine.armLine l s).2 := by
  unfold Machine.armLine
  split
  · exact h
  · next off => exact k.armLine l on (by simpa [LineState.armed] using off) h

theorem RowsKeep.disarmLineResult (l : LineId) (on : s.inReset = false) (h : P s) : P (Machine.disarmLine l s).2 := by
  unfold Machine.disarmLine
  split
  · next armed => exact k.disarmLine l on (by simpa [LineState.armed] using armed) h
  · exact h

theorem RowsKeep.injectResult (l : LineId) (v : Level) (on : s.inReset = false) (h : P s) : P (injectLine l v s).2 := by
  unfold injectLine
  split
  · exact h
  · next armed =>
    split
    · exact h
    · exact k.injectLevel l (some v) on (by simpa [LineState.armed] using armed) h

theorem RowsKeep.endInjectResult (l : LineId) (on : s.inReset = false) (h : P s) : P (endInjectLine l s).2 := by
  unfold endInjectLine
  split
  · exact h
  · next armed =>
    split
    · exact h
    · exact k.injectLevel l none on (by simpa [LineState.armed] using armed) h

theorem RowsKeep.groupResetResult (g : GroupId) (on : s.inReset = false) (h : P s) : P (groupReset g s).2 := by
  unfold groupReset
  split
  · exact h
  · exact h
  · next tripped => exact k.clearGroup g on tripped h

theorem RowsKeep.ruleDisableResult (r : RuleId) (on : s.inReset = false) (h : P s) : P (ruleDisable r s).2 := by
  unfold ruleDisable
  split
  · exact k.disableRule r on h
  · exact h

theorem RowsKeep.pulseResult (q : OutputId) (on : s.inReset = false) (h : P s) : P (pulseOutput q s).2 := by
  unfold pulseOutput
  split
  · exact h
  · exact k.requestPulse q on h

theorem RowsKeep.markResult (note : Word) (half : Half) (on : s.inReset = false) (h : P s) : P (markNote note half s).2 := by
  unfold markNote
  split
  · exact h
  · exact k.mark note half on h

/-- A command keeps P where its block does. -/
theorem RowsKeep.command (h : Half) (code : Word) {act : Slot → State → ResultCode × State}
    (acts : P (act (s.slots.get h) s).2) : P (takeCommand h code act s) := k.setSlot h _ acts

theorem RowsKeep.cmdArmLine (h : Half) (on : s.inReset = false) (p : P s) : P (cmdArmLine h s) :=
  k.command h _ (controlOnly_keeps h p (withOperand_keeps _ p fun l => k.armLineResult l on p))

theorem RowsKeep.cmdDisarmLine (h : Half) (on : s.inReset = false) (p : P s) : P (cmdDisarmLine h s) :=
  k.command h _ (controlOnly_keeps h p (withOperand_keeps _ p fun l => k.disarmLineResult l on p))

theorem RowsKeep.cmdInject (h : Half) (on : s.inReset = false) (p : P s) : P (cmdInject h s) :=
  k.command h _ (controlOnly_keeps h p (withOperand_keeps _ p fun l => withOperand_keeps _ p fun v => k.injectResult l v on p))

theorem RowsKeep.cmdEndInject (h : Half) (on : s.inReset = false) (p : P s) : P (cmdEndInject h s) :=
  k.command h _ (controlOnly_keeps h p (withOperand_keeps _ p fun l => k.endInjectResult l on p))

theorem RowsKeep.cmdGroupReset (h : Half) (on : s.inReset = false) (p : P s) : P (cmdGroupReset h s) :=
  k.command h _ (controlOnly_keeps h p (withOperand_keeps _ p fun g => k.groupResetResult g on p))

theorem RowsKeep.cmdRuleEnable (h : Half) (on : s.inReset = false) (p : P s) : P (cmdRuleEnable h s) :=
  k.command h _ (controlOnly_keeps h p (withOperand_keeps _ p fun r => k.ruleEnable r on p))

theorem RowsKeep.cmdRuleDisable (h : Half) (on : s.inReset = false) (p : P s) : P (cmdRuleDisable h s) :=
  k.command h _ (controlOnly_keeps h p (withOperand_keeps _ p fun r => k.ruleDisableResult r on p))

theorem RowsKeep.cmdSetTime (h : Half) (on : s.inReset = false) (p : P s) : P (cmdSetTime h s) := by
  have kept := k.setCounter (timeOperand s.time.setHigh (s.slots.get h)) on p
  unfold Machine.cmdSetTime takeCommand
  refine k.setSlot h _ (controlOnly_keeps h p ?_)
  dsimp only
  exact kept

theorem RowsKeep.cmdSnapshot (h : Half) (on : s.inReset = false) (p : P s) : P (cmdSnapshot h s) :=
  k.command h _ (controlOnly_keeps h p (k.takeSnapshot on p))

theorem RowsKeep.cmdStoreClear (h : Half) (on : s.inReset = false) (p : P s) : P (cmdStoreClear h s) :=
  k.command h _ (controlOnly_keeps h p (k.clearStore on p))

theorem RowsKeep.cmdPulse (h : Half) (on : s.inReset = false) (p : P s) : P (cmdPulse h s) :=
  k.command h _ (controlOnly_keeps h p (withOperand_keeps _ p fun q => k.pulseResult q on p))

theorem RowsKeep.cmdRestart (h : Half) (on : s.inReset = false) (p : P s) : P (cmdRestart h s) :=
  k.command h _ (controlOnly_keeps h p (k.restartPart on p))

theorem RowsKeep.cmdAckLine (h : Half) (on : s.inReset = false) (p : P s) : P (cmdAckLine h s) :=
  k.command h _ (withOperand_keeps _ p fun l => k.ackLine _ h l on p)

theorem RowsKeep.cmdAckAll (h : Half) (on : s.inReset = false) (p : P s) : P (cmdAckAll h s) :=
  k.command h _ (k.ackAll _ h on p)

theorem RowsKeep.cmdSilence (h : Half) (on : s.inReset = false) (p : P s) : P (cmdSilence h s) :=
  k.command h _ (k.silenceEntries h on p)

theorem RowsKeep.cmdMark (h : Half) (on : s.inReset = false) (p : P s) : P (cmdMark h s) :=
  k.command h _ (k.markResult _ h on p)

/-! ## The words of the window (Table 38) -/

/-- Whatever value is written to CMD (R186, R187). -/
theorem RowsKeep.writeCmd (h : Half) (v : Word) (on : s.inReset = false) (p : P s) : P (writeCmd h v s) := by
  have acts : ∀ f : State → State, f = Machine.writeCmd h v → P (f s) := by
    intro f is
    unfold Machine.writeCmd at is
    split at is
    · subst is; exact k.cmdArmLine h on p
    · subst is; exact k.cmdDisarmLine h on p
    · subst is; exact k.cmdInject h on p
    · subst is; exact k.cmdEndInject h on p
    · subst is; exact k.cmdGroupReset h on p
    · subst is; exact k.cmdRuleEnable h on p
    · subst is; exact k.cmdRuleDisable h on p
    · subst is; exact k.cmdSetTime h on p
    · subst is; exact k.cmdSnapshot h on p
    · subst is; exact k.cmdStoreClear h on p
    · subst is; exact k.cmdPulse h on p
    · subst is; exact k.cmdRestart h on p
    · subst is; exact k.cmdAckLine h on p
    · subst is; exact k.cmdAckAll h on p
    · subst is; exact k.cmdSilence h on p
    · subst is; exact k.cmdMark h on p
    · subst is; exact k.command h _ (k.enableFromOldest h on p)
    · subst is; exact k.command h _ (k.enableFromNext h on p)
    · subst is; exact k.command h _ (k.disableChannel h on p)
    · subst is; exact k.command h _ (k.skipRecord h on p)
    · subst is; exact k.command h _ (k.rereadRecord h on p)
    · subst is; exact k.command h _ p
  exact acts _ rfl

/-- Whatever word is written (R182, R184). -/
theorem RowsKeep.writeWord (w : WordId) (v : Word) (on : s.inReset = false) (p : P s) : P (writeWord w v s) := by
  unfold Machine.writeWord
  split
  · unfold writeControlWord
    split
    · exact k.setSlot _ _ p
    · exact k.setSlot _ _ p
    · exact k.writeCmd _ v on p
    · exact k.writePortAddress _ v on p
    · exact k.writeTableData v on p
    · exact k.writeStoreControl v on p
    · exact k.writeTimeControl v on p
    · exact k.writeTolerance v on p
    · exact k.writeStepLimit v on p
    · exact k.writeSetHigh v on p
    · exact k.writeAckRecording v on p
    · exact k.writeOutputData v on p
    · exact k.writeThreshold _ v on p
    · exact k.writeHoldoff _ v on p
    · exact k.writeChannelCauses _ v on p
    · exact k.writeSystemCauses _ v on p
    · exact k.writeSystemRoutes v on p
    · exact p
  · unfold writeArchiveWord
    split
    · exact k.setSlot _ _ p
    · exact k.setSlot _ _ p
    · exact k.writeCmd _ v on p
    · exact k.writePortAddress _ v on p
    · exact k.writeThreshold _ v on p
    · exact k.writeHoldoff _ v on p
    · exact k.writeChannelCauses _ v on p
    · exact k.writeSystemCauses _ v on p
    · exact p

/-! ## The timers that guard their expiry (log 3) -/

theorem RowsKeep.sampledLine (l : LineId) (v : Level) (p : P s) :
    P (if !s.clockRunning then s else if s.inReset then s.setLine l (LineState.reset v)
      else observeLevel l (s.setLine l { s.lines.get l with physical := v })) := by
  split
  · exact p
  · split
    · next on => exact k.sampledInReset l v on p
    · next on => exact k.sampled l v (by simpa using on) p

theorem RowsKeep.qualificationExpires (l : LineId) (on : s.inReset = false) (p : P s) :
    P (if (s.lines.get l).qualTimer.isSome then
      match (s.lines.get l).cond with
      | .settling => Machine.qualifySettling l s
      | .departing => Machine.qualifyDeparture l s
      | .returning => Machine.qualifyReturn l s
      | .disarmed => s
      | .normal => s
      | .offnormal => s
      | .chatter => s
    else s) := by
  split
  · cases c : (s.lines.get l).cond with
    | settling => exact k.qualifySettling l on c p
    | departing => exact k.qualifyDeparture l on c p
    | returning => exact k.qualifyReturn l on c p
    | _ => exact p
  · exact p

theorem RowsKeep.escalates (l : LineId) (on : s.inReset = false) (p : P s) :
    P (match s.alarmOf l with
      | none => s
      | some e => if e.phase = .alert ∧ e.timer.isSome then Machine.escalate e s else s) := by
  cases found : s.alarmOf l with
  | none => exact p
  | some e =>
    dsimp only
    split
    · next running => exact k.escalate l e on found running.1 p
    · exact p

end

/-! ## Rows and steps -/

/-- Every row keeps what the blocks keep. -/
theorem RowsKeep.exec {P : State → Prop} (k : RowsKeep P) {s t : State} (c : Instr) (p : P s) (ran : exec c s = .next t) :
    P t := by
  cases c with
  | fieldLineChange l v => cases ran; exact k.sampledLine l v p
  | syncPulse =>
    cases ran
    refine timed_keeps p fun on => ?_
    split
    · next enabled => exact k.takePulse on enabled p
    · exact p
  | hardwareReset =>
    cases ran
    split
    · exact k.releaseReset p
    · exact p
  | qualificationExpiry l => cases ran; exact timed_keeps p fun on => k.qualificationExpires l on p
  | chatterWindowExpiry l => cases ran; exact timed_keeps p fun on => k.closeWindow l on p
  | releaseExpiry l =>
    cases ran
    refine timed_keeps p fun on => ?_
    split
    · next running => exact k.releaseLine l on running.1 p
    · exact p
  | supervisionExpiry =>
    cases ran
    refine timed_keeps p fun on => ?_
    split
    · next running => exact k.superviseEnds on running p
    · exact p
  | holdAbsorbed => cases ran; exact timed_keeps p fun on => k.holdAbsorbed on p
  | resolutionTimerExpiry g =>
    cases ran
    refine timed_keeps p fun on => ?_
    split
    · next running => exact k.resolveGroup g on running.1 p
    · exact p
  | lapseTimerExpiry r place => cases ran; exact timed_keeps p fun on => k.lapse r place on p
  | escalationTimerExpiry l => cases ran; exact timed_keeps p fun on => k.escalates l on p
  | lengthTimerExpiry q =>
    cases ran
    refine timed_keeps p fun on => ?_
    split
    · next running => exact k.lengthExpires q on running.1 p
    · exact p
  | gapTimerExpiry q =>
    cases ran
    refine timed_keeps p fun on => ?_
    split
    · next running => exact k.gapExpires q on running.1 p
    · exact p
  | holdoffTimerExpiry h =>
    cases ran
    refine timed_keeps p fun on => ?_
    split
    · next running => exact k.holdoffExpires h on running p
    · exact p
  | flashPhase => cases ran; exact timed_keeps p fun on => k.flashPhase on p
  | channelDataRead h => cases ran; exact k.readStrobe _ p fun on => k.readChannelData h on p
  | channelStatusRead h => cases ran; exact k.readStrobe _ p fun on => k.statusTaken h on p
  | timeHighRead h => cases ran; exact k.readStrobe _ p fun on => k.latchTime h on p
  | tableDataRead => cases ran; exact k.readStrobe _ p fun on => k.stepPort _ on p
  | mirrorDataRead => cases ran; exact k.readStrobe _ p fun on => k.stepPort _ on p
  | tableDataWrite v => cases ran; exact live_keeps p fun on => k.writeTableData v on p
  | tableStatusRead => cases ran; exact k.readStrobe _ p fun on => k.clearTableStatus on p
  | tableAddressWrite v => cases ran; exact live_keeps p fun on => k.writePortAddress _ v on p
  | mirrorAddressWrite v => cases ran; exact live_keeps p fun on => k.writePortAddress _ v on p
  | storeControlWrite v => cases ran; exact live_keeps p fun on => k.writeStoreControl v on p
  | timeControlWrite v => cases ran; exact live_keeps p fun on => k.writeTimeControl v on p
  | outputDataWrite v => cases ran; exact live_keeps p fun on => k.writeOutputData v on p
  | readyThresholdWrite h v => cases ran; exact live_keeps p fun on => k.writeThreshold h v on p
  | readyHoldoffWrite h v => cases ran; exact live_keeps p fun on => k.writeHoldoff h v on p
  | channelCausesWrite h v => cases ran; exact live_keeps p fun on => k.writeChannelCauses h v on p
  | systemCausesWrite h v => cases ran; exact live_keeps p fun on => k.writeSystemCauses h v on p
  | systemRoutesWrite v => cases ran; exact live_keeps p fun on => k.writeSystemRoutes v on p
  | registerWrite w v => cases ran; exact live_keeps p fun on => k.writeWord w v on p
  | badCommand h v => cases ran; exact live_keeps p fun on => k.writeCmd h v on p
  | armLine h => cases ran; exact live_keeps p fun on => k.cmdArmLine h on p
  | disarmLine h => cases ran; exact live_keeps p fun on => k.cmdDisarmLine h on p
  | inject h => cases ran; exact live_keeps p fun on => k.cmdInject h on p
  | endInject h => cases ran; exact live_keeps p fun on => k.cmdEndInject h on p
  | groupReset h => cases ran; exact live_keeps p fun on => k.cmdGroupReset h on p
  | ruleEnable h => cases ran; exact live_keeps p fun on => k.cmdRuleEnable h on p
  | ruleDisable h => cases ran; exact live_keeps p fun on => k.cmdRuleDisable h on p
  | setTime h => cases ran; exact live_keeps p fun on => k.cmdSetTime h on p
  | snapshot h => cases ran; exact live_keeps p fun on => k.cmdSnapshot h on p
  | storeClear h => cases ran; exact live_keeps p fun on => k.cmdStoreClear h on p
  | pulse h => cases ran; exact live_keeps p fun on => k.cmdPulse h on p
  | restart h => cases ran; exact live_keeps p fun on => k.cmdRestart h on p
  | ackLine h => cases ran; exact live_keeps p fun on => k.cmdAckLine h on p
  | ackAll h => cases ran; exact live_keeps p fun on => k.cmdAckAll h on p
  | silence h => cases ran; exact live_keeps p fun on => k.cmdSilence h on p
  | mark h => cases ran; exact live_keeps p fun on => k.cmdMark h on p
  | channelEnableFromOldest h => cases ran; exact live_keeps p fun on => k.command h _ (k.enableFromOldest h on p)
  | channelEnableFromNext h => cases ran; exact live_keeps p fun on => k.command h _ (k.enableFromNext h on p)
  | channelDisable h => cases ran; exact live_keeps p fun on => k.command h _ (k.disableChannel h on p)
  | channelSkip h => cases ran; exact live_keeps p fun on => k.command h _ (k.skipRecord h on p)
  | channelReread h => cases ran; exact live_keeps p fun on => k.command h _ (k.rereadRecord h on p)
  | resetnAsserted =>
    cases ran
    split
    · exact k.holdInReset p
    · exact p

/-- With nothing waiting, a due expiry is a row and time passes in one tick (log 2). -/
theorem RowsKeep.idle {P : State → Prop} (k : RowsKeep P) {s t : State} (p : P s) (ran : idle s = .next t) : P t := by
  unfold Machine.idle at ran
  split at ran
  · cases ran; exact p
  · next off =>
    split at ran
    · cases ran; exact k.tick (running_of_not_stopped off).1 p
    · exact k.exec _ p ran
    · exact k.exec _ (k.freeIndex _ p) ran

/-- Every step keeps what the blocks keep. -/
theorem RowsKeep.step {P : State → Prop} (k : RowsKeep P) {s t : State} (p : P s) (ran : step s = .next t) : P t := by
  unfold Machine.step at ran
  split at ran
  · exact k.idle p ran
  · exact k.exec _ (k.pending _ p) ran

end Sys2Proof.Machine

/-! PROOFS. Restart: RESTART written out: the blocks after steps 1 to 3, and what the lines that settle at once leave (R192). -/
namespace Sys2Proof.Machine

/-- A channel after the clear notice of RESTART (R106). -/
def Channel.restarted (c : Channel) : Channel :=
  { c with unread := 0, offset := 0, holdoffTimer := none, torn := c.torn || (c.enabled && decide (0 < c.offset)) }

/-- The clear notice of RESTART sets no cause (R106). -/
theorem clearNotice_quiet (h : Half) (s : State) :
    clearNotice h false s = s.setChannel h (s.channels.get h).restarted := by
  unfold clearNotice
  dsimp only
  rw [Bool.and_false, if_neg Bool.false_ne_true]
  rfl

theorem restartStore_eq (s : State) : restartStore s = { s with
    channels := ⟨s.channels.control.restarted, s.channels.archive.restarted⟩
    store := { s.store with records := [], tail := 0, loss := none } } := by
  unfold restartStore discardRecords
  rw [clearNotice_quiet, clearNotice_quiet]
  rfl

/-- A line after RESTART has reached the lines (R23). -/
def State.restartedLine (s : State) (l : LineId) : LineState :=
  if (s.lines.get l).armed then (s.lines.get l).settle (s.checkExpires l) else s.lines.get l

/-- Steps 1 to 3 of RESTART, block by block (R192). -/
theorem restartBlocks_eq (s : State) : restartBlocks s = { s with
    lines := Vector.ofFn s.restartedLine
    groups := s.groups.map fun g => FirstOutGroup.cleared g.window
    rules := s.rules.map fun r => { r with contexts := [] }
    exhausted := false
    alarms := { s.alarms with entries := [], summaries := summariesOf [] }
    outputs := { s.outputs with
      lines := s.outputs.lines.map OutputLine.restarted
      handed := Vector.ofFn fun t =>
        handOne (s.alarms.summaries.get t) ((summariesOf []).get t) (s.outputs.handed.get t) }
    channels := ⟨s.channels.control.restarted, s.channels.archive.restarted⟩
    store := { s.store with records := [], tail := 0, loss := none }
    irq := s.irq.clearFlags } := by
  simp only [restartBlocks, restartStore_eq, restartLines, restartGroups, restartRules, restartAlarms, handSummaries,
    State.setEntries, restartOutputs]
  rfl

theorem restartBlocks_line (s : State) (l : LineId) : (restartBlocks s).lines.get l = s.restartedLine l := by
  rw [restartBlocks_eq]
  exact get_ofFn _ _

/-- RESTART arms and disarms no line (R23). -/
theorem restartedLine_armed (s : State) (l : LineId) : (s.restartedLine l).armed = (s.lines.get l).armed := by
  unfold State.restartedLine
  cases armed : (s.lines.get l).armed
  · exact armed
  · rfl

/-! ## The lines that leave SETTLING at once (step 5) -/

theorem settleLines_events (ls : List LineId) (s : State) : OnlyEvents s (settleLines ls s) := by
  induction ls generalizing s with
  | nil => exact OnlyEvents.refl s
  | cons l ls ih => exact (qualifySettling_handled l s).events.trans (ih _)

theorem settleLines_line_other {ls : List LineId} {l : LineId} (out : l ∉ ls) (s : State) :
    (settleLines ls s).lines.get l = s.lines.get l := by
  induction ls generalizing s with
  | nil => rfl
  | cons k ls ih =>
    rw [List.mem_cons, not_or] at out
    exact (ih out.2 _).trans ((qualifySettling_handled k s).others l out.1)

theorem settleLines_line {ls : List LineId} {l : LineId} (once : ls.Nodup) (inside : l ∈ ls) (s : State) :
    (settleLines ls s).lines.get l = (s.lines.get l).settled (s.lineTable.get l).normal := by
  induction ls generalizing s with
  | nil => exact absurd inside (List.not_mem_nil)
  | cons k ls ih =>
    obtain ⟨apart, rest⟩ := List.nodup_cons.mp once
    show (settleLines ls (qualifySettling k s)).lines.get l = _
    by_cases same : l = k
    · rw [same, settleLines_line_other apart, qualifySettling_line]
    · rw [ih rest ((List.mem_cons.mp inside).resolve_left same), (qualifySettling_handled k s).others l same,
        (qualifySettling_handled k s).events.lineTable]

/-- Whether a line leaves SETTLING at once at RESTART (R192). -/
def State.settlesAtOnce (s : State) (l : LineId) : Bool := (s.lines.get l).armed && decide ((s.profileOf l).checkTime = 0)

/-- The state before the lines settle: the blocks restarted and the RESTART record appended (R192, steps 1 to 4). -/
def restartRecorded (s : State) : State := report (restartBlocks s).now false (.restart .command) (restartBlocks s)

theorem restartRecorded_reports (s : State) : OnlyReports (restartBlocks s) (restartRecorded s) := report_onlyReports _ _ _ _

theorem restartRecorded_line (s : State) (l : LineId) : (restartRecorded s).lines.get l = s.restartedLine l := by
  rw [(restartRecorded_reports s).lines, restartBlocks_line]

theorem restartRecorded_lineTable (s : State) : (restartRecorded s).lineTable = s.lineTable := by
  rw [(restartRecorded_reports s).lineTable, restartBlocks_eq]

theorem restartRecorded_profileOf (s : State) (l : LineId) : (restartRecorded s).profileOf l = s.profileOf l := by
  rw [(restartRecorded_reports s).toEvents.profileOf, State.profileOf, State.profileOf, restartBlocks_eq]

/-- The lines that settle at once are those of the state before RESTART, in ascending number. -/
theorem restartPart_eq (s : State) :
    restartPart s = settleLines ((List.finRange 32).filter s.settlesAtOnce) (restartRecorded s) := by
  have same : (restartRecorded s).armedLines.filter (fun l => ((restartRecorded s).profileOf l).checkTime = 0) =
      (List.finRange 32).filter s.settlesAtOnce := by
    unfold State.armedLines
    rw [List.filter_filter]
    refine List.filter_congr fun l _ => ?_
    rw [restartRecorded_line, restartedLine_armed, restartRecorded_profileOf, Bool.and_comm]
    rfl
  rw [← same]
  rfl

/-- Every line after RESTART (R23, R192). -/
theorem restartPart_line (s : State) (l : LineId) : (restartPart s).lines.get l =
    if s.settlesAtOnce l then (s.restartedLine l).settled (s.lineTable.get l).normal else s.restartedLine l := by
  rw [restartPart_eq]
  split
  · next now =>
    rw [settleLines_line ((List.nodup_finRange 32).filter _) (by simp [now]), restartRecorded_line, restartRecorded_lineTable]
  · next later => rw [settleLines_line_other (by simp [later]), restartRecorded_line]

theorem restartPart_lineTable (s : State) : (restartPart s).lineTable = s.lineTable := by
  rw [restartPart_eq, (settleLines_events _ _).lineTable, restartRecorded_lineTable]

end Sys2Proof.Machine

/-! PROOFS. LegalLines: what a line holds agrees with its conditioning state, kept by every operation (Table 7). -/
namespace Sys2Proof.Machine

/-! ## One line -/

/-- A reset line is legal (R22). -/
theorem reset_legal (v n : Level) : (LineState.reset v).legal n := by
  simp [LineState.legal, LineState.reset, LineState.presentLevel]

/-- A line that settles anew is legal (R23). -/
theorem settle_legal (x : LineState) (expires : Nat) (n : Level) : (x.settle expires).legal n := by
  simp [LineState.legal, LineState.settle, LineState.reset, LineState.presentLevel]

/-- A legal line stays legal when its window closes (R12). -/
theorem legal_window_closed {x : LineState} {n : Level} (h : x.legal n) : { x with window := none }.legal n := by
  obtain ⟨level, held⟩ := h
  refine ⟨level, ?_⟩
  cases c : x.cond <;> simp only [c] at held ⊢ <;> simp [held]

/-- A legal line that is not DISARMED stays legal when its level is observed anew and found the same (R1, R17). -/
theorem legal_resampled {x : LineState} {n : Level} (h : x.legal n) {v : Level} {i : Option Level}
    (none_ : x.cond = .disarmed → i = none) (same : i.getD v = x.effective) :
    { x with physical := v, injected := i }.legal n := by
  obtain ⟨-, held⟩ := h
  refine ⟨same.symm, ?_⟩
  cases c : x.cond <;> simp only [c] at held none_ ⊢ <;> simp [held, none_]

/-- Whether a line is in NORMAL or OFFNORMAL. -/
def LineState.atRest (x : LineState) : Prop := x.cond = .normal ∨ x.cond = .offnormal

/-- Opening a window at rest (R12). -/
theorem legal_window_open {x : LineState} {n : Level} (h : x.legal n) (rest : x.atRest) (w : Option ChatterWindow) :
    { x with window := w }.legal n := by
  obtain ⟨level, held⟩ := h
  refine ⟨level, ?_⟩
  rcases rest with c | c <;> simp only [c] at held ⊢ <;> exact held

/-- Entering CHATTER from rest (R13). -/
theorem chattering_legal {x : LineState} {n : Level} (h : x.legal n) (rest : x.atRest) (edge : Stamp) (release : Nat) :
    (x.chattering edge release).legal n := by
  obtain ⟨level, held⟩ := h
  refine ⟨level, ?_⟩
  rcases rest with c | c <;> simp only [c] at held <;> simp [LineState.chattering, held]

/-- A departure qualified at the offnormal level (R9). -/
theorem departed_legal {x : LineState} {n : Level} (level : x.effective = x.presentLevel) (away : x.effective = n.flip)
    (unreleased : x.releaseTimer = none) : (x.departed n).legal n :=
  ⟨level, rfl, away, rfl, rfl, unreleased⟩

/-- A return qualified at the normal level (R10). -/
theorem returned_legal {x : LineState} {n : Level} (level : x.effective = x.presentLevel) (back : x.effective = n)
    (unreleased : x.releaseTimer = none) : (x.returned n).legal n :=
  ⟨level, rfl, back, rfl, rfl, unreleased⟩

/-- A line that stands at its level, with no edge and no timer, is legal in the state of that level. -/
theorem legal_at_level {x : LineState} {n : Level} (level : x.effective = x.presentLevel)
    (cond : x.cond = if x.effective = n then .normal else .offnormal) (qualified : x.qualified = some x.effective)
    (edge : x.edge = none) (unqualifying : x.qualTimer = none) (unreleased : x.releaseTimer = none) : x.legal n := by
  refine ⟨level, ?_⟩
  by_cases back : x.effective = n
  · rw [if_pos back] at cond
    simp only [cond]
    exact ⟨qualified.trans (by rw [back]), back, edge, unqualifying, unreleased⟩
  · rw [if_neg back] at cond
    have away := Level.eq_flip_of_ne back
    simp only [cond]
    exact ⟨qualified.trans (by rw [away]), away, edge, unqualifying, unreleased⟩

/-- A line that has left SETTLING (R6). -/
theorem settled_legal {x : LineState} {n : Level} (h : x.legal n) (c : x.cond = .settling) : (x.settled n).legal n := by
  obtain ⟨level, held⟩ := h
  simp only [c] at held
  obtain ⟨-, edge, -, -, unreleased⟩ := held
  exact legal_at_level level rfl rfl edge rfl unreleased

/-- A line released from CHATTER (R15). -/
theorem released_legal {x : LineState} {n : Level} (h : x.legal n) (c : x.cond = .chatter) : (x.released n).legal n := by
  obtain ⟨level, held⟩ := h
  simp only [c] at held
  obtain ⟨-, edge, unqualifying, -⟩ := held
  exact legal_at_level level rfl rfl edge unqualifying rfl

/-! ## The conditioner at its line -/

theorem countTransition_legal {l : LineId} {s : State} {n : Level} (edge : Stamp) (h : (s.lines.get l).legal n)
    (rest : (s.lines.get l).atRest) : ((countTransition l edge s).lines.get l).legal n := by
  rcases countTransition_line l edge s with same | ⟨w, counted⟩ | chatter
  · rw [same]; exact h
  · rw [counted]; exact legal_window_open h rest w
  · rw [chatter]; exact chattering_legal h rest edge _

theorem qualifyDeparture_legal {l : LineId} {s : State} (level : (s.lines.get l).effective = (s.lines.get l).presentLevel)
    (away : (s.lines.get l).effective = (s.lineTable.get l).normal.flip) (unreleased : (s.lines.get l).releaseTimer = none) :
    ((qualifyDeparture l s).lines.get l).legal (s.lineTable.get l).normal := by
  rw [qualifyDeparture_eq]
  refine countTransition_legal _ ?_ ?_ <;> rw [handDepart_line]
  · exact departed_legal level away unreleased
  · exact .inr rfl

theorem qualifyReturn_legal {l : LineId} {s : State} (level : (s.lines.get l).effective = (s.lines.get l).presentLevel)
    (back : (s.lines.get l).effective = (s.lineTable.get l).normal) (unreleased : (s.lines.get l).releaseTimer = none) :
    ((qualifyReturn l s).lines.get l).legal (s.lineTable.get l).normal := by
  rw [qualifyReturn_eq]
  refine countTransition_legal _ ?_ ?_ <;> rw [handReturn_line]
  · exact returned_legal level back unreleased
  · exact .inl rfl

/-- A line that was legal takes a change to the other level (Table 8, R1). `x` is the line before the change. -/
theorem takeChange_legal {l : LineId} {s : State} {x : LineState} {v : Level} {i : Option Level}
    (h : x.legal (s.lineTable.get l).normal) (none_ : x.cond = .disarmed → i = none) (changed : i.getD v ≠ x.effective)
    (is : s.lines.get l = { x with physical := v, injected := i, effective := i.getD v }) :
    ((takeChange l s).lines.get l).legal (s.lineTable.get l).normal := by
  have cond : (s.lines.get l).cond = x.cond := by rw [is]
  have other : i.getD v = x.effective.flip := Level.eq_flip_of_ne changed
  obtain ⟨-, held⟩ := h
  cases c : x.cond with
  | disarmed =>
    simp only [c] at held none_
    rw [takeChange_disarmed (cond.trans c), is]
    exact ⟨rfl, by simp [c, held, none_]⟩
  | settling =>
    simp only [c] at held
    rw [takeChange_settling (cond.trans c), setLine_lines, get_put_same, is]
    exact ⟨rfl, by simp [c, held]⟩
  | normal =>
    simp only [c] at held
    obtain ⟨qualified, back, edge, unqualifying, unreleased⟩ := held
    by_cases check : (s.profileOf l).checkTime = 0
    · rw [takeChange_normal_atOnce (cond.trans c) check]
      refine qualifyDeparture_legal (s := captureEdge l .departing s) ?_ ?_ ?_ <;>
        rw [captureEdge, setLine_lines, get_put_same, is]
      · rfl
      · exact other.trans (by rw [back]; rfl)
      · exact unreleased
    · rw [takeChange_normal (cond.trans c) check, captureEdge, setLine_lines, get_put_same, is]
      exact ⟨rfl, qualified, other.trans (by rw [back]), rfl, rfl, unreleased⟩
  | departing =>
    simp only [c] at held
    obtain ⟨qualified, away, -, -, unreleased⟩ := held
    rw [takeChange_departing (cond.trans c), bounce, setLine_lines, get_put_same, is]
    exact ⟨rfl, qualified, other.trans (by rw [away, Level.flip_flip]), rfl, rfl, unreleased⟩
  | offnormal =>
    simp only [c] at held
    obtain ⟨qualified, away, edge, unqualifying, unreleased⟩ := held
    have back : i.getD v = (s.lineTable.get l).normal := other.trans (by rw [away, Level.flip_flip])
    by_cases check : (s.profileOf l).checkTime = 0
    · rw [takeChange_offnormal_atOnce (cond.trans c) check]
      refine qualifyReturn_legal (s := captureEdge l .returning s) ?_ ?_ ?_ <;>
        rw [captureEdge, setLine_lines, get_put_same, is]
      · rfl
      · exact back
      · exact unreleased
    · rw [takeChange_offnormal (cond.trans c) check, captureEdge, setLine_lines, get_put_same, is]
      exact ⟨rfl, qualified, back, rfl, rfl, unreleased⟩
  | returning =>
    simp only [c] at held
    obtain ⟨qualified, back, -, -, unreleased⟩ := held
    rw [takeChange_returning (cond.trans c), bounce, setLine_lines, get_put_same, is]
    exact ⟨rfl, qualified, other.trans (by rw [back]), rfl, rfl, unreleased⟩
  | chatter =>
    simp only [c] at held
    rw [takeChange_chatter (cond.trans c), suppressChange, setLine_lines, get_put_same, is]
    exact ⟨rfl, by simp [c, held]⟩

/-- A legal line whose input or injection becomes another is legal after its level is observed (R1, R17, R18). -/
theorem observeLevel_legal {l : LineId} {s : State} {v : Level} {i : Option Level}
    (h : (s.lines.get l).legal (s.lineTable.get l).normal) (none_ : (s.lines.get l).cond = .disarmed → i = none) :
    ((observeLevel l (s.setLine l { s.lines.get l with physical := v, injected := i })).lines.get l).legal
      (s.lineTable.get l).normal := by
  obtain ⟨t, is⟩ : ∃ t, t = s.setLine l { s.lines.get l with physical := v, injected := i } := ⟨_, rfl⟩
  have held : t.lines.get l = { s.lines.get l with physical := v, injected := i } := by rw [is]; exact get_put_same _ _ _
  rw [← is]
  by_cases same : i.getD v = (s.lines.get l).effective
  · rw [observeLevel_same (by rw [held]; exact same), held]
    exact legal_resampled h none_ same
  · rw [observeLevel_changed (by rw [held]; exact same), is]
    refine takeChange_legal (x := s.lines.get l) (v := v) (i := i) h none_ same ?_
    rw [setLine_setLine, setLine_lines, get_put_same, setLine_lines, get_put_same]
    rfl

end Sys2Proof.Machine

/-! PROOFS. EveryLineLegal: every row keeps every line legal (O35). -/
namespace Sys2Proof.Machine

/-- Every line is legal against its Line Table entry (Table 7). -/
def State.linesLegal (s : State) : Prop := ∀ l, (s.lines.get l).legal (s.lineTable.get l).normal

/-! ## The lines and their table stand -/

/-- Neither the lines nor the Line Table have changed. -/
structure LinesStand (s t : State) : Prop where
  lines : t.lines = s.lines
  lineTable : t.lineTable = s.lineTable

theorem LinesStand.refl (s : State) : LinesStand s s := ⟨rfl, rfl⟩

theorem LinesStand.trans {s t u : State} (a : LinesStand s t) (b : LinesStand t u) : LinesStand s u :=
  ⟨b.lines.trans a.lines, b.lineTable.trans a.lineTable⟩

/-- What came before changed neither. -/
theorem LinesStand.after {s t u : State} (b : LinesStand t u) (lines : t.lines = s.lines)
    (lineTable : t.lineTable = s.lineTable) : LinesStand s u := LinesStand.trans ⟨lines, lineTable⟩ b

theorem LinesStand.legal {s t : State} (a : LinesStand s t) (h : s.linesLegal) : t.linesLegal := by
  intro l
  rw [a.lines, a.lineTable]
  exact h l

theorem Handled.linesStand {s t : State} (a : Handled s t) : LinesStand s t := ⟨a.lines, a.events.lineTable⟩

theorem OnlyReports.linesStand {s t : State} (a : OnlyReports s t) : LinesStand s t := ⟨a.lines, a.lineTable⟩

/-- Either of two states stands. -/
theorem LinesStand.ite {s t u : State} {c : Prop} [Decidable c] (a : LinesStand s t) (b : LinesStand s u) :
    LinesStand s (if c then t else u) := by
  split
  · exact a
  · exact b

theorem changeQuality_linesStand (q : Quality) (s : State) : LinesStand s (changeQuality q s) := by
  unfold changeQuality
  refine LinesStand.ite (LinesStand.refl s) ?_
  have reported := report_onlyReports ⟨s.time.counter, q⟩ false (.time .quality s.time.quality q 0)
    { s with time := { s.time with quality := q } }
  exact ⟨reported.lines, reported.lineTable⟩

theorem discontinuityNotice_linesStand (s : State) : LinesStand s (discontinuityNotice s) :=
  (discontinuityNotice_handled s).linesStand

theorem correctCounter_linesStand (offset : Int) (s : State) : LinesStand s (correctCounter offset s) :=
  LinesStand.ite ⟨rfl, rfl⟩ ⟨rfl, rfl⟩

theorem stepCounter_linesStand (q : Quality) (offset : Int) (s : State) : LinesStand s (stepCounter q offset s) := by
  unfold stepCounter
  refine LinesStand.trans ?_ (discontinuityNotice_linesStand _)
  refine LinesStand.trans ?_ (changeQuality_linesStand _ _)
  refine LinesStand.trans ?_ (report_onlyReports _ _ _ _).linesStand
  exact ⟨rfl, rfl⟩

theorem alignCounter_linesStand (beyond : Quality) (s : State) : LinesStand s (alignCounter beyond s) :=
  LinesStand.ite ((correctCounter_linesStand _ s).trans (changeQuality_linesStand _ _)) (stepCounter_linesStand _ _ s)

theorem takePulse_linesStand (s : State) : LinesStand s (takePulse s) := by
  have aligned : ∀ beyond, LinesStand s (alignCounter beyond { s with time := { s.time with hold := 0 } }) := fun beyond =>
    (alignCounter_linesStand beyond _).after rfl rfl
  unfold takePulse
  cases s.time.quality with
  | free => exact ⟨rfl, rfl⟩
  | acquiring =>
    have handled : LinesStand s (if s.time.regular then alignCounter .locked { s with time := { s.time with hold := 0 } }
        else { s with time := { s.time with hold := 0 } }) := LinesStand.ite (aligned .locked) ⟨rfl, rfl⟩
    exact ⟨handled.lines, handled.lineTable⟩
  | locked => exact ⟨(aligned .acquiring).lines, (aligned .acquiring).lineTable⟩
  | holdover => exact ⟨(aligned .acquiring).lines, (aligned .acquiring).lineTable⟩

theorem setCounter_linesStand (v : Timestamp) (s : State) : LinesStand s (setCounter v s) := by
  unfold setCounter
  refine LinesStand.trans ?_ (discontinuityNotice_linesStand _)
  refine LinesStand.trans ?_ (changeQuality_linesStand _ _)
  refine LinesStand.trans ?_ (report_onlyReports _ _ _ _).linesStand
  exact ⟨rfl, rfl⟩

theorem writeTimeControl_linesStand (v : Word) (s : State) : LinesStand s (writeTimeControl v s) := by
  have changed : ∀ (q : Quality) (t : State), LinesStand s t → LinesStand s (changeQuality q t) := fun q t stands =>
    stands.trans (changeQuality_linesStand q t)
  exact LinesStand.ite (LinesStand.ite (LinesStand.refl s) (changed _ _ ⟨rfl, rfl⟩))
    (LinesStand.ite (changed _ _ ⟨rfl, rfl⟩) (LinesStand.refl s))

theorem clearNotice_linesStand (h : Half) (cause : Bool) (s : State) : LinesStand s (clearNotice h cause s) :=
  LinesStand.ite ⟨rfl, rfl⟩ ⟨rfl, rfl⟩

theorem clearStore_linesStand (s : State) : LinesStand s (clearStore s) := by
  refine LinesStand.trans ?_ (report_onlyReports _ _ _ _).linesStand
  refine LinesStand.trans ?_ (clearNotice_linesStand .archive true _)
  refine LinesStand.trans ?_ (clearNotice_linesStand .control true _)
  exact ⟨rfl, rfl⟩

theorem disableRule_linesStand (r : RuleId) (s : State) : LinesStand s (disableRule r s) :=
  LinesStand.trans (lapseOldest_handled .disabled r _ s).linesStand ⟨rfl, rfl⟩

theorem acknowledged_linesStand {s : State} {r : Bool × State} (a : Handled s r.2) : LinesStand s (acknowledged r).2 := by
  unfold acknowledged
  split
  · exact (a.trans (handSummaries_handled _)).linesStand
  · exact a.linesStand

theorem readChannelData_linesStand (h : Half) (s : State) : LinesStand s (readChannelData h s) := by
  unfold readChannelData
  cases s.deliverable h with
  | none => exact ⟨rfl, rfl⟩
  | some r => exact LinesStand.ite ⟨rfl, rfl⟩ (consume_onlyReports h s).linesStand

theorem enableFromOldest_linesStand (h : Half) (s : State) : LinesStand s (enableFromOldest h s).2 := by
  unfold enableFromOldest
  dsimp only
  split
  · exact LinesStand.refl s
  · exact (readyRules_onlyReports h 0 _).linesStand.after rfl rfl

theorem enableFromNext_linesStand (h : Half) (s : State) : LinesStand s (enableFromNext h s).2 := by
  unfold enableFromNext
  dsimp only
  split
  · exact LinesStand.refl s
  · exact (reclaim_onlyReports _).linesStand.after rfl rfl

theorem disableChannel_linesStand (h : Half) (s : State) : LinesStand s (disableChannel h s).2 := by
  unfold disableChannel
  dsimp only
  split
  · exact (reclaim_onlyReports _).linesStand.after rfl rfl
  · exact LinesStand.refl s

theorem skipRecord_linesStand (h : Half) (s : State) : LinesStand s (skipRecord h s).2 := by
  unfold skipRecord
  dsimp only
  split
  · exact LinesStand.refl s
  · split
    · exact LinesStand.refl s
    · exact (consume_onlyReports h s).linesStand

theorem rereadRecord_linesStand (h : Half) (s : State) : LinesStand s (rereadRecord h s).2 := by
  unfold rereadRecord
  dsimp only
  split
  · exact LinesStand.refl s
  · split <;> exact ⟨rfl, rfl⟩

theorem writeThreshold_linesStand (h : Half) (v : Word) (s : State) : LinesStand s (writeThreshold h v s) :=
  LinesStand.ite (LinesStand.refl s) (LinesStand.ite ⟨rfl, rfl⟩ ⟨rfl, rfl⟩)

theorem readyCleared_linesStand (h : Half) (s : State) : LinesStand s (readyCleared h s) :=
  LinesStand.ite (LinesStand.refl s) (LinesStand.ite ⟨rfl, rfl⟩ (LinesStand.ite ⟨rfl, rfl⟩ (LinesStand.refl s)))

theorem writeChannelCauses_linesStand (h : Half) (v : Word) (s : State) : LinesStand s (writeChannelCauses h v s) :=
  LinesStand.ite ((readyCleared_linesStand h _).after rfl rfl) ⟨rfl, rfl⟩

theorem writePortAddress_linesStand (h : Half) (v : Word) (s : State) : LinesStand s (writePortAddress h v s) :=
  LinesStand.ite ⟨rfl, rfl⟩ (LinesStand.refl s)

/-! ## Operations of one line -/

/-- What one line does keeps every line legal when it keeps that one. -/
theorem LineHandled.linesLegal {l : LineId} {s t : State} (a : LineHandled l s t) (h : s.linesLegal)
    (own : (t.lines.get l).legal (s.lineTable.get l).normal) : t.linesLegal := by
  intro k
  rw [a.events.lineTable]
  by_cases same : k = l
  · rw [same]; exact own
  · rw [a.others k same]; exact h k

theorem setLine_linesLegal {s : State} {l : LineId} {x : LineState} (h : s.linesLegal)
    (own : x.legal (s.lineTable.get l).normal) : (s.setLine l x).linesLegal :=
  (setLine_handled s l x).linesLegal h (by rw [setLine_lines, get_put_same]; exact own)

/-- A line's own entry is written only while it is DISARMED, and a DISARMED line is legal against any entry (R4). -/
theorem writeLineEntry_linesLegal {s : State} (l : LineId) (n : Nat) (w : Word) (h : s.linesLegal) :
    ∀ t, writeLineEntry s l n w = .accepted t → t.linesLegal := by
  intro t taken
  unfold writeLineEntry acceptOr at taken
  split at taken
  · cases taken
  · split at taken
    · cases taken
    · next off =>
      have disarmed : (s.lines.get l).cond = .disarmed := by simpa [LineState.armed] using off
      split at taken
      · cases taken
      · next e _ =>
        cases taken
        intro k
        by_cases same : k = l
        · have legal := h l
          simp only [LineState.legal, disarmed] at legal
          show (s.lines.get k).legal ((put s.lineTable l e).get k).normal
          rw [same, get_put_same]
          simpa only [LineState.legal, disarmed] using legal
        · show (s.lines.get k).legal ((put s.lineTable l e).get k).normal
          rw [get_put_other _ _ _ _ same]
          exact h k

/-- A write of a part of the state other than the lines and their table, when it is accepted. -/
theorem acceptOr_linesStand {α : Type} {s t : State} {o : Option α} {f : α → State} (taken : acceptOr o f = .accepted t)
    (stands : ∀ x, LinesStand s (f x)) : LinesStand s t := by
  cases o with
  | none => cases taken
  | some x => cases taken; exact stands x

/-- Whatever table word is written, the lines stay legal (R198). -/
theorem writeTable_linesLegal {s : State} (p : PortAddress) (w : Word) (h : s.linesLegal) :
    ∀ t, writeTable s p w = .accepted t → t.linesLegal := by
  intro t taken
  unfold writeTable at taken
  split at taken
  · exact writeLineEntry_linesLegal _ _ _ h t taken
  · unfold writeProfile at taken
    split at taken
    · cases taken
    · exact (acceptOr_linesStand taken fun _ => ⟨rfl, rfl⟩).legal h
  · unfold writeGroup at taken
    split at taken
    · cases taken
    · split at taken
      · cases taken
      · cases taken; exact h
  · unfold writeRule at taken
    split at taken
    · cases taken
    · split at taken
      · cases taken
      · exact (acceptOr_linesStand taken fun _ => ⟨rfl, rfl⟩).legal h
  · unfold writeOutput at taken
    split at taken
    · cases taken
    · exact (acceptOr_linesStand taken fun _ => ⟨rfl, rfl⟩).legal h
  · exact (acceptOr_linesStand taken fun _ => ⟨rfl, rfl⟩).legal h
  · cases taken

theorem writeTableData_linesLegal {s : State} (w : Word) (h : s.linesLegal) : (writeTableData w s).linesLegal := by
  unfold writeTableData
  cases judged : writeTable s s.ports.control w with
  | accepted t => exact writeTable_linesLegal _ _ h t judged
  | refused reason => exact h
  | ignored => exact h

/-- ARM LINE of a legal DISARMED line (R5, R6). -/
theorem armDisarmed_legal {l : LineId} {s : State} (h : (s.lines.get l).legal (s.lineTable.get l).normal)
    (c : (s.lines.get l).cond = .disarmed) : ((armDisarmed l s).lines.get l).legal (s.lineTable.get l).normal := by
  obtain ⟨level, held⟩ := h
  simp only [c] at held
  obtain ⟨qualified, edge, -, -, unreleased, uninjected⟩ := held
  have armed : LineState.legal { s.lines.get l with
      cond := .settling, qualTimer := some (s.checkExpires l), window := none, injected := none } (s.lineTable.get l).normal :=
    ⟨by rw [level, LineState.presentLevel, uninjected]; rfl, qualified, edge, rfl, rfl, unreleased⟩
  unfold armDisarmed
  dsimp only
  split
  · rw [qualifySettling_line, setLine_lines, get_put_same]
    exact settled_legal armed rfl
  · rw [setLine_lines, get_put_same]
    exact armed

theorem restartPart_linesLegal {s : State} (h : s.linesLegal) : (restartPart s).linesLegal := by
  intro l
  rw [restartPart_line, restartPart_lineTable]
  unfold State.settlesAtOnce State.restartedLine
  cases armed : (s.lines.get l).armed
  · exact h l
  · rw [Bool.true_and, if_pos rfl]
    split
    · exact settled_legal (settle_legal _ _ _) rfl
    · exact settle_legal _ _ _

theorem holdInReset_linesLegal (s : State) : (holdInReset s).linesLegal := by
  intro l
  show ((s.lines.map fun x => LineState.reset x.physical).get l).legal _
  rw [get_map]
  exact reset_legal _ _

/-- Every operation that a row asks of a block keeps the lines legal. -/
theorem rowsKeep_linesLegal : RowsKeep State.linesLegal where
  pending _ h := h
  freeIndex _ h := h
  lastRead _ h := h
  setSlot _ _ h := h
  tick _ h := h
  sampledInReset _ v _ h := setLine_linesLegal h (reset_legal v _)
  sampled {s} l v _ h := by
    refine ((setLine_handled _ _ _).trans (observeLevel_handled l _)).linesLegal h ?_
    refine observeLevel_legal (s := s) (v := v) (i := (s.lines.get l).injected) (h l) fun c => ?_
    have held := (h l).2
    simp only [c] at held
    exact held.2.2.2.2.2
  qualifySettling l _ c h := (qualifySettling_handled l _).linesLegal h (by
    rw [qualifySettling_line]
    exact settled_legal (h l) c)
  qualifyDeparture l _ c h := (qualifyDeparture_handled l _).linesLegal h (by
    obtain ⟨level, held⟩ := h l
    simp only [c] at held
    obtain ⟨-, away, -, -, unreleased⟩ := held
    exact qualifyDeparture_legal level away unreleased)
  qualifyReturn l _ c h := (qualifyReturn_handled l _).linesLegal h (by
    obtain ⟨level, held⟩ := h l
    simp only [c] at held
    obtain ⟨-, back, -, -, unreleased⟩ := held
    exact qualifyReturn_legal level back unreleased)
  closeWindow l _ h := setLine_linesLegal h (legal_window_closed (h l))
  releaseLine l _ c h := (releaseLine_handled l _).linesLegal h (by
    rw [releaseLine_line]
    exact released_legal (h l) c)
  takePulse _ _ h := (takePulse_linesStand _).legal h
  superviseEnds _ _ h := LinesStand.legal
    (LinesStand.ite ((changeQuality_linesStand .holdover _).after rfl rfl) ⟨rfl, rfl⟩) h
  holdAbsorbed _ h := h
  resolveGroup g _ _ h := (resolveGroup_handled g false _).linesStand.legal h
  lapse r k _ h := (lapse_handled .window r k _).linesStand.legal h
  escalate _ e _ _ _ h := (escalate_handled e _).linesStand.legal h
  lengthExpires _ _ _ h := h
  gapExpires _ _ _ h := h
  holdoffExpires _ _ _ h := h
  flashPhase _ h := h
  readChannelData half _ h := (readChannelData_linesStand half _).legal h
  statusTaken _ _ h := h
  latchTime _ _ h := h
  stepPort _ _ h := h
  clearTableStatus _ h := h
  writeTableData w _ h := writeTableData_linesLegal w h
  writePortAddress half w _ h := (writePortAddress_linesStand half w _).legal h
  writeStoreControl _ _ h := h
  writeTimeControl v _ h := (writeTimeControl_linesStand v _).legal h
  writeTolerance _ _ h := LinesStand.legal (LinesStand.ite (LinesStand.refl _) ⟨rfl, rfl⟩) h
  writeStepLimit _ _ h := LinesStand.legal (LinesStand.ite (LinesStand.refl _) ⟨rfl, rfl⟩) h
  writeSetHigh _ _ h := h
  writeAckRecording _ _ h := h
  writeOutputData _ _ h := h
  writeThreshold half v _ h := (writeThreshold_linesStand half v _).legal h
  writeHoldoff _ _ _ h := h
  writeChannelCauses half v _ h := (writeChannelCauses_linesStand half v _).legal h
  writeSystemCauses _ _ _ h := h
  writeSystemRoutes _ _ h := h
  armLine l _ c h := (armDisarmed_handled l _).linesLegal h (armDisarmed_legal (h l) c)
  disarmLine l _ _ h := (disarmArmed_handled l _).linesLegal h (by
    unfold disarmArmed
    rw [setLine_lines, get_put_same]
    exact reset_legal _ _)
  injectLevel {s} l v _ armed h := (injectLevel_handled l v _).linesLegal h
    (observeLevel_legal (v := (s.lines.get l).physical) (h l) fun c => absurd c armed)
  clearGroup g _ _ h := (clearGroup_handled g _).linesStand.legal h
  ruleEnable _ _ h := by
    unfold ruleEnable
    split <;> exact h
  disableRule r _ h := (disableRule_linesStand r _).legal h
  setCounter v _ h := (setCounter_linesStand v _).legal h
  takeSnapshot _ h := (report_onlyReports _ _ _ _).linesStand.legal h
  clearStore _ h := (clearStore_linesStand _).legal h
  requestPulse q _ h := (requestPulse_handled q _).linesStand.legal h
  ackLine tag half l _ h := (acknowledged_linesStand (ackEntry_handled tag half l _)).legal h
  ackAll tag half _ h := (acknowledged_linesStand (ackEntries_handled tag half _ (false, _))).legal h
  silenceEntries half _ h := (silenceEntries_handled half _).linesStand.legal h
  mark _ _ _ h := (report_onlyReports _ _ _ _).linesStand.legal h
  restartPart _ h := restartPart_linesLegal h
  enableFromOldest half _ h := (enableFromOldest_linesStand half _).legal h
  enableFromNext half _ h := (enableFromNext_linesStand half _).legal h
  disableChannel half _ h := (disableChannel_linesStand half _).legal h
  skipRecord half _ h := (skipRecord_linesStand half _).legal h
  rereadRecord half _ h := (rereadRecord_linesStand half _).legal h
  holdInReset _ := holdInReset_linesLegal _
  releaseReset {s} _ := (report_onlyReports ⟨0, .free⟩ false (.restart .reset)
    { Machine.holdInReset s with inReset := false }).linesStand.legal (holdInReset_linesLegal s)

/-- Settles O35: every operation keeps every line legal, so every step does. -/
theorem linesLegalAfterEveryStep : Obligations.LinesLegalAfterEveryStep :=
  fun _ _ legal ran => rowsKeep_linesLegal.step legal ran

end Sys2Proof.Machine

/-! PROOFS. Reset: the invariants at the state after reset (O7). -/
namespace Sys2Proof.Machine

/-- Every entry of a table of equal entries is that entry. -/
theorem get_replicate {α : Type} {n : Nat} (x : α) (i : Fin n) : (Vector.replicate n x).get i = x :=
  Vector.getElem_replicate i.isLt

/-- A hardware reset rule is legal (R127). -/
theorem CorrRule.reset_legal : CorrRule.reset.legal := by
  refine ⟨?_, ?_, ?_, ?_, ?_, ?_, fun _ => rfl, fun _ inside => absurd inside List.not_mem_nil⟩ <;> decide

/-- A hardware reset output is legal (R168). -/
theorem OutputLine.reset_legal : OutputLine.reset.legal :=
  ⟨fun _ => rfl, fun _ => ⟨rfl, rfl⟩, fun busy => absurd rfl busy, by decide, by decide, by decide⟩

/-- A hardware reset Time Base is legal (R37). -/
theorem TimeBase.reset_legal : TimeBase.reset.legal := by
  refine ⟨⟨fun _ => rfl, fun _ => rfl⟩, ?_, ?_, fun _ => ⟨rfl, rfl⟩, fun _ => rfl⟩ <;> decide

/-- A hardware reset channel is legal, at end of the store (R105). -/
theorem State.reset_channelLegal (h : Half) : State.reset.channelLegal h := by
  have channel : State.reset.channels.get h = Channel.reset := by cases h <;> rfl
  refine ⟨?_, ?_, ?_⟩
  · rw [channel]
    refine ⟨fun _ => rfl, fun _ => ⟨rfl, rfl⟩, fun _ => rfl, ?_, ?_⟩ <;> decide
  · rw [channel]
    exact Nat.zero_le _
  · have atEnd : State.reset.cursorRecord h = none := by
      rw [State.cursorRecord, channel]
      rfl
    rw [atEnd]
    exact fun _ found => absurd found (Option.not_mem_none _)

/-- No entry, and the summaries of no entry (R149). -/
theorem AlarmList.reset_legal : AlarmList.reset.legal :=
  ⟨List.nodup_nil, fun _ inside => absurd inside List.not_mem_nil, by decide⟩

/-- The RESTART record leaves the reserve (R82). -/
theorem State.reset_keepsReserve : State.reset.store.keepsReserve := by
  unfold Store.keepsReserve
  decide

/-- The Next Number follows the RESTART record's (R82). -/
theorem State.reset_accounts : State.reset.store.accounts := by
  refine ⟨trivial, fun r newest => ?_⟩
  cases newest
  rfl

/-- Settles O7, block by block. -/
theorem invariantsHoldAtReset : Obligations.InvariantsHoldAtReset := by
  refine ⟨fun asserted => absurd asserted (by decide), State.reset_keepsReserve, State.reset_accounts,
    State.reset_channelLegal, TimeBase.reset_legal, fun l => ?_, fun g => ?_, fun r => ?_, ⟨?_, ?_⟩, AlarmList.reset_legal,
    ?_, fun q => ?_, fun h => ?_⟩
  · exact (get_replicate (LineState.reset .low) l).symm ▸ reset_legal _ _
  · exact (get_replicate (FirstOutGroup.cleared 0) g).symm ▸ rfl
  · exact (get_replicate CorrRule.reset r).symm ▸ CorrRule.reset_legal
  · decide
  · decide
  · decide
  · exact (get_replicate OutputLine.reset q).symm ▸ OutputLine.reset_legal
  · cases h <;> decide

end Sys2Proof.Machine

/-! PROOFS. LineCommands: the commands that name a line, and those that the state of a line or a channel turns away (O20). -/
namespace Sys2Proof.Machine

/-! ## A command of the control half at a line -/

section
variable {s t : State} {l : LineId} {c : ResultCode} {result : Word}

theorem exec_armLine (running : s.inReset = false) (at_ : s.slots.control.arg0.toNat = l.val) (acted : armLine l s = (c, t))
    (word : resultWord c 0x01 = result) :
    exec (.armLine .control) s = .next (t.setSlot .control (s.slots.control.answered 0x01 result)) := by
  refine command_next (h := .control) running ?_ word
  show withOperand (operand 32 s.slots.control.arg0) s _ = _
  rw [operand_inRange l at_, withOperand_some, acted]

theorem exec_disarmLine (running : s.inReset = false) (at_ : s.slots.control.arg0.toNat = l.val)
    (acted : disarmLine l s = (c, t)) (word : resultWord c 0x02 = result) :
    exec (.disarmLine .control) s = .next (t.setSlot .control (s.slots.control.answered 0x02 result)) := by
  refine command_next (h := .control) running ?_ word
  show withOperand (operand 32 s.slots.control.arg0) s _ = _
  rw [operand_inRange l at_, withOperand_some, acted]

theorem exec_inject {v : Level} (running : s.inReset = false) (at_ : s.slots.control.arg0.toNat = l.val)
    (level : s.slots.control.arg1.toNat = v.code) (acted : injectLine l v s = (c, t)) (word : resultWord c 0x03 = result) :
    exec (.inject .control) s = .next (t.setSlot .control (s.slots.control.answered 0x03 result)) := by
  refine command_next (h := .control) running ?_ word
  show withOperand (operand 32 s.slots.control.arg0) s (fun l =>
    withOperand (levelOperand s.slots.control.arg1) s fun v => injectLine l v s) = _
  rw [operand_inRange l at_, withOperand_some, levelOperand_inRange v level, withOperand_some, acted]

theorem exec_endInject (running : s.inReset = false) (at_ : s.slots.control.arg0.toNat = l.val)
    (acted : endInjectLine l s = (c, t)) (word : resultWord c 0x04 = result) :
    exec (.endInject .control) s = .next (t.setSlot .control (s.slots.control.answered 0x04 result)) := by
  refine command_next (h := .control) running ?_ word
  show withOperand (operand 32 s.slots.control.arg0) s _ = _
  rw [operand_inRange l at_, withOperand_some, acted]

end

/-! ## What a line's state turns away (R5, R16 to R18) -/

section
variable {s : State} {l : LineId}

theorem armed_iff (x : LineState) : x.armed = true ↔ x.cond ≠ .disarmed := by simp [LineState.armed]

theorem armed_false_iff (x : LineState) : x.armed = false ↔ x.cond = .disarmed := by simp [LineState.armed]

theorem armLine_armed (h : (s.lines.get l).cond ≠ .disarmed) : armLine l s = (.wrongState, s) :=
  if_pos ((armed_iff _).mpr h)

theorem armLine_disarmed (h : (s.lines.get l).cond = .disarmed) : armLine l s = (.done, armDisarmed l s) :=
  if_neg (by rw [(armed_false_iff _).mpr h]; exact Bool.false_ne_true)

theorem disarmLine_armed (h : (s.lines.get l).cond ≠ .disarmed) : disarmLine l s = (.done, disarmArmed l s) :=
  if_pos ((armed_iff _).mpr h)

theorem disarmLine_disarmed (h : (s.lines.get l).cond = .disarmed) : disarmLine l s = (.wrongState, s) :=
  if_neg (by rw [(armed_false_iff _).mpr h]; exact Bool.false_ne_true)

theorem injectLine_disarmed (v : Level) (h : (s.lines.get l).cond = .disarmed) : injectLine l v s = (.wrongState, s) := by
  simp [injectLine, (armed_false_iff _).mpr h]

theorem injectLine_same {v : Level} (h : (s.lines.get l).cond ≠ .disarmed) (same : (s.lines.get l).injected = some v) :
    injectLine l v s = (.noEffect, s) := by
  simp [injectLine, (armed_iff _).mpr h, same]

theorem injectLine_other {v : Level} (h : (s.lines.get l).cond ≠ .disarmed) (other : (s.lines.get l).injected ≠ some v) :
    injectLine l v s = (.done, injectLevel l (some v) s) := by
  simp [injectLine, (armed_iff _).mpr h, other]

theorem endInjectLine_disarmed (h : (s.lines.get l).cond = .disarmed) : endInjectLine l s = (.wrongState, s) := by
  simp [endInjectLine, (armed_false_iff _).mpr h]

theorem endInjectLine_clear (h : (s.lines.get l).cond ≠ .disarmed) (clear : (s.lines.get l).injected = none) :
    endInjectLine l s = (.noEffect, s) := by
  simp [endInjectLine, (armed_iff _).mpr h, clear]

theorem endInjectLine_injected (h : (s.lines.get l).cond ≠ .disarmed) (set : (s.lines.get l).injected.isSome = true) :
    endInjectLine l s = (.done, injectLevel l none s) := by
  have injected : (s.lines.get l).injected ≠ none := fun none_ => by rw [none_] at set; cases set
  simp [endInjectLine, (armed_iff _).mpr h, injected]

end

/-! ## What a channel's state turns away (R94 to R97) -/

section
variable {s : State} {h : Half}

theorem enableFromOldest_enabled (on : (s.channels.get h).enabled = true) : enableFromOldest h s = (.wrongState, s) :=
  if_pos on

theorem enableFromNext_enabled (on : (s.channels.get h).enabled = true) : enableFromNext h s = (.wrongState, s) :=
  if_pos on

theorem disableChannel_disabled (off : (s.channels.get h).enabled = false) : disableChannel h s = (.noEffect, s) := by
  simp [disableChannel, off]

theorem skipRecord_disabled (off : (s.channels.get h).enabled = false) : skipRecord h s = (.wrongState, s) := by
  simp [skipRecord, off]

theorem skipRecord_atEnd (on : (s.channels.get h).enabled = true) (atEnd : (s.channels.get h).unread = 0) :
    skipRecord h s = (.noEffect, s) := by
  simp [skipRecord, on, atEnd]

end

/-- Settles O20: each command is answered with the state it found. -/
theorem commandsTurnedAwayByState : Obligations.CommandsTurnedAwayByState := by
  refine ⟨fun h s running => ⟨fun on => ⟨?_, ?_⟩, fun off => ⟨?_, ?_⟩, fun on atEnd => ?_⟩,
    fun l v s running at_ => ⟨fun armed => ⟨?_, fun level same => ?_, fun clear => ?_⟩,
      fun disarmed => ⟨?_, fun level => ?_, ?_⟩⟩⟩
  · exact command_next running (enableFromOldest_enabled on) (by decide)
  · exact command_next running (enableFromNext_enabled on) (by decide)
  · exact command_next running (disableChannel_disabled off) (by decide)
  · exact command_next running (skipRecord_disabled off) (by decide)
  · exact command_next running (skipRecord_atEnd on atEnd) (by decide)
  · exact exec_armLine running at_ (armLine_armed armed) (by decide)
  · exact exec_inject running at_ level (injectLine_same armed same) (by decide)
  · exact exec_endInject running at_ (endInjectLine_clear armed clear) (by decide)
  · exact exec_disarmLine running at_ (disarmLine_disarmed disarmed) (by decide)
  · exact exec_inject running at_ level (injectLine_disarmed v disarmed) (by decide)
  · exact exec_endInject running at_ (endInjectLine_disarmed disarmed) (by decide)

end Sys2Proof.Machine

/-! PROOFS. LevelChanges: how a line takes a change of its effective level, whether its input or an injection made it
(O30, O32), and ARM LINE and DISARM LINE (O31). -/
namespace Sys2Proof.Machine

/-! ## An observed level -/

/-- A line given a level that is the one last observed (R1). -/
theorem observeLevel_setLine_same {l : LineId} {s : State} {y : LineState} (h : y.presentLevel = y.effective) :
    observeLevel l (s.setLine l y) = s.setLine l y :=
  observeLevel_same (by rw [setLine_lines, get_put_same, h])

/-- A line given another level takes the change (R1). -/
theorem observeLevel_setLine_changed {l : LineId} {s : State} {y : LineState} (h : y.presentLevel ≠ y.effective) :
    observeLevel l (s.setLine l y) = takeChange l (s.setLine l { y with effective := y.presentLevel }) := by
  have held : (s.setLine l y).lines.get l = y := by rw [setLine_lines, get_put_same]
  rw [observeLevel_changed (by rw [held]; exact h), held, setLine_setLine]

/-- Out of reset and with CLK running a field input is sampled (R1). -/
theorem exec_fieldLineChange {s : State} (l : LineId) (v : Level) (running : s.inReset = false)
    (clock : s.clockRunning = true) :
    exec (.fieldLineChange l v) s = .next (observeLevel l (s.setLine l { s.lines.get l with physical := v })) := by
  show execFieldLineChange l v s = _
  simp [execFieldLineChange, running, clock]

/-- A physical change outside injection is taken as a change of the effective level (R1). -/
theorem fieldLineChange_changed {l : LineId} {v : Level} {s : State} {x : LineState} (running : s.inReset = false)
    (clock : s.clockRunning = true) (is : x = s.lines.get l) (uninjected : x.injected = none) (changed : x.effective ≠ v) :
    exec (.fieldLineChange l v) s = .next (takeChange l (s.setLine l { x with physical := v, effective := v })) := by
  subst is
  have level : LineState.presentLevel { s.lines.get l with physical := v } = v := by
    rw [LineState.presentLevel, uninjected]; rfl
  rw [exec_fieldLineChange l v running clock, observeLevel_setLine_changed (by rw [level]; exact fun e => changed e.symm), level]

/-- A sample that does not change the effective level is noted as the physical level (R1). -/
theorem fieldLineChange_unchanged {l : LineId} {v : Level} {s : State} {x : LineState} (running : s.inReset = false)
    (clock : s.clockRunning = true) (is : x = s.lines.get l) (same : x.injected.getD v = x.effective) :
    exec (.fieldLineChange l v) s = .next (s.setLine l { x with physical := v }) := by
  subst is
  rw [exec_fieldLineChange l v running clock, observeLevel_setLine_same (by exact same)]

/-! ## A change, state by state (Table 8), of a line that stands as y -/

section
variable {s : State} {l : LineId} {y : LineState}

theorem captureEdge_setLine (c : Cond) : captureEdge l c (s.setLine l y) =
    s.setLine l { y with cond := c, edge := some s.now, qualTimer := some (s.checkExpires l) } := by
  simp [captureEdge]

theorem bounce_setLine (c : Cond) :
    bounce l c (s.setLine l y) = s.setLine l { y with cond := c, edge := none, qualTimer := none } := by
  simp [bounce]

theorem suppressChange_setLine : suppressChange l (s.setLine l y) = s.setLine l { y with
    suppressed := satInc y.suppressed
    lastChange := some s.now
    releaseTimer := some (s.inMillis (s.profileOf l).releaseTime.toNat) } := by
  simp [suppressChange]

theorem setLine_cond {c : Cond} (is : y.cond = c) : ((s.setLine l y).lines.get l).cond = c := by
  rw [setLine_lines, get_put_same, is]

end

/-! ## Qualification without a chatter limit -/

/-- The transition of a departure is counted by the line's own profile. -/
theorem qualifyDeparture_unlimited {l : LineId} {s : State} (none_ : (s.profileOf l).chatterLimit = 0) :
    qualifyDeparture l s = handDepart l ((s.lines.get l).edge.getD s.now) s := by
  rw [qualifyDeparture_eq, countTransition_unlimited (by rw [(handDepart_handled _ _ _).events.profileOf, none_])]

/-- The transition of a return is counted by the line's own profile. -/
theorem qualifyReturn_unlimited {l : LineId} {s : State} (none_ : (s.profileOf l).chatterLimit = 0) :
    qualifyReturn l s = handReturn l ((s.lines.get l).edge.getD s.now) s := by
  rw [qualifyReturn_eq, countTransition_unlimited (by rw [(handReturn_handled _ _ _).events.profileOf, none_])]

/-- Settles O30: the sample is noted, and a change goes to the line's state. -/
theorem fieldChangeDrivesTheLine : Obligations.FieldChangeDrivesTheLine := by
  intro l v s x y check release running clock is checkIs releaseIs changedTo
  refine ⟨fun injected => ?_, fun uninjected same => ?_, fun uninjected changed => ?_⟩
  · exact fieldLineChange_unchanged running clock is (by rw [injected]; rfl)
  · exact fieldLineChange_unchanged running clock is (by rw [uninjected, same]; rfl)
  have taken := fieldLineChange_changed running clock is uninjected changed
  rw [← changedTo] at taken
  have cond : ∀ {c}, x.cond = c → ((s.setLine l y).lines.get l).cond = c := fun c =>
    setLine_cond (by rw [changedTo]; exact c)
  have handled : LineHandled l s (takeChange l (s.setLine l y)) := (setLine_handled s l y).trans (takeChange_handled l _)
  have atOnce : check = s.time.elapsed → ((s.setLine l y).profileOf l).checkTime = 0 := fun e =>
    (checkTime_zero_iff s.time.elapsed _).mp (checkIs.symm.trans e)
  have later : check ≠ s.time.elapsed → ((s.setLine l y).profileOf l).checkTime ≠ 0 := fun e z =>
    e (checkIs.trans ((checkTime_zero_iff s.time.elapsed _).mpr z))
  have checkIs' : check = s.checkExpires l := checkIs
  have releaseIs' : release = s.inMillis (s.profileOf l).releaseTime.toNat := releaseIs
  rw [taken]
  refine ⟨fun c => ?_, fun c => ?_, fun c nonzero => ?_, fun c zero => ⟨_, rfl, handled.events, handled.others, fun unlimited => ?_⟩,
    fun c => ?_, fun c nonzero => ?_, fun c zero => ⟨_, rfl, handled.events, handled.others, fun unlimited => ?_⟩, fun c => ?_,
    fun c => ?_⟩
  · rw [takeChange_disarmed (cond c)]
  · rw [takeChange_settling (cond c), setLine_setLine, setLine_lines, get_put_same, checkIs']
    rfl
  · rw [takeChange_normal (cond c) (later nonzero), captureEdge_setLine, checkIs']
  · rw [takeChange_normal_atOnce (cond c) (atOnce zero), captureEdge_setLine,
      qualifyDeparture_unlimited (by exact unlimited), handDepart_line, setLine_lines, get_put_same]
    rfl
  · rw [takeChange_departing (cond c), bounce_setLine]
  · rw [takeChange_offnormal (cond c) (later nonzero), captureEdge_setLine, checkIs']
  · rw [takeChange_offnormal_atOnce (cond c) (atOnce zero), captureEdge_setLine,
      qualifyReturn_unlimited (by exact unlimited), handReturn_line, setLine_lines, get_put_same]
    rfl
  · rw [takeChange_returning (cond c), bounce_setLine]
  · rw [takeChange_chatter (cond c), suppressChange_setLine, releaseIs', changedTo]

/-! ## Levels are kept by a change -/

/-- The two lines have the same levels and the same injection. -/
structure SameLevels (x y : LineState) : Prop where
  physical : y.physical = x.physical
  effective : y.effective = x.effective
  injected : y.injected = x.injected

theorem SameLevels.trans {x y z : LineState} (a : SameLevels x y) (b : SameLevels y z) : SameLevels x z :=
  ⟨b.physical.trans a.physical, b.effective.trans a.effective, b.injected.trans a.injected⟩

theorem countTransition_levels (l : LineId) (edge : Stamp) (s : State) :
    SameLevels (s.lines.get l) ((countTransition l edge s).lines.get l) := by
  rcases countTransition_line l edge s with same | ⟨w, counted⟩ | chatter
  · rw [same]; exact ⟨rfl, rfl, rfl⟩
  · rw [counted]; exact ⟨rfl, rfl, rfl⟩
  · rw [chatter]; exact ⟨rfl, rfl, rfl⟩

theorem qualifyDeparture_levels (l : LineId) (s : State) :
    SameLevels (s.lines.get l) ((qualifyDeparture l s).lines.get l) := by
  rw [qualifyDeparture_eq]
  refine SameLevels.trans ?_ (countTransition_levels l _ _)
  rw [handDepart_line]
  exact ⟨rfl, rfl, rfl⟩

theorem qualifyReturn_levels (l : LineId) (s : State) : SameLevels (s.lines.get l) ((qualifyReturn l s).lines.get l) := by
  rw [qualifyReturn_eq]
  refine SameLevels.trans ?_ (countTransition_levels l _ _)
  rw [handReturn_line]
  exact ⟨rfl, rfl, rfl⟩

/-- An update of a line that keeps its levels. -/
theorem setLine_levels {l : LineId} {s : State} {x : LineState} (same : SameLevels (s.lines.get l) x) :
    SameLevels (s.lines.get l) ((s.setLine l x).lines.get l) := by
  rw [setLine_lines, get_put_same]; exact same

theorem captureEdge_levels (l : LineId) (c : Cond) (s : State) :
    SameLevels (s.lines.get l) ((captureEdge l c s).lines.get l) := setLine_levels ⟨rfl, rfl, rfl⟩

theorem takeChange_levels (l : LineId) (s : State) : SameLevels (s.lines.get l) ((takeChange l s).lines.get l) := by
  unfold takeChange
  split
  · exact ⟨rfl, rfl, rfl⟩
  · exact setLine_levels ⟨rfl, rfl, rfl⟩
  · split
    · exact (captureEdge_levels l _ s).trans (qualifyDeparture_levels l _)
    · exact captureEdge_levels l _ s
  · exact setLine_levels ⟨rfl, rfl, rfl⟩
  · split
    · exact (captureEdge_levels l _ s).trans (qualifyReturn_levels l _)
    · exact captureEdge_levels l _ s
  · exact setLine_levels ⟨rfl, rfl, rfl⟩
  · exact setLine_levels ⟨rfl, rfl, rfl⟩

/-! ## Injection (section 1.8) -/

/-- What an injection or its end leaves: the levels, and the change where there is one (R17, R18). -/
structure Injected (l : LineId) (i : Option Level) (s u : State) : Prop where
  handled : LineHandled l s u
  injected : (u.lines.get l).injected = i
  effective : (u.lines.get l).effective = i.getD (s.lines.get l).physical
  physical : (u.lines.get l).physical = (s.lines.get l).physical
  unchanged : (s.lines.get l).effective = i.getD (s.lines.get l).physical →
    u = s.setLine l { s.lines.get l with injected := i }
  changed : (s.lines.get l).effective ≠ i.getD (s.lines.get l).physical →
    u = takeChange l (s.setLine l { s.lines.get l with injected := i, effective := i.getD (s.lines.get l).physical })

theorem injectLevel_injected (l : LineId) (i : Option Level) (s : State) : Injected l i s (injectLevel l i s) := by
  have unchanged : (s.lines.get l).effective = i.getD (s.lines.get l).physical →
      injectLevel l i s = s.setLine l { s.lines.get l with injected := i } := fun same =>
    observeLevel_setLine_same (by exact same.symm)
  have changed : (s.lines.get l).effective ≠ i.getD (s.lines.get l).physical → injectLevel l i s = takeChange l
      (s.setLine l { s.lines.get l with injected := i, effective := i.getD (s.lines.get l).physical }) := fun other =>
    observeLevel_setLine_changed (by exact fun e => other e.symm)
  have levels : SameLevels { s.lines.get l with injected := i, effective := i.getD (s.lines.get l).physical }
      ((injectLevel l i s).lines.get l) := by
    by_cases same : (s.lines.get l).effective = i.getD (s.lines.get l).physical
    · rw [unchanged same, setLine_lines, get_put_same]
      exact ⟨rfl, same, rfl⟩
    · rw [changed same]
      have kept := takeChange_levels l
        (s.setLine l { s.lines.get l with injected := i, effective := i.getD (s.lines.get l).physical })
      rw [setLine_lines, get_put_same] at kept
      exact kept
  exact ⟨injectLevel_handled l i s, levels.injected, levels.effective, levels.physical, unchanged, changed⟩

/-- Settles O32: an injection's levels, and the one way a change of level is taken. -/
theorem injectAndEndInject : Obligations.InjectAndEndInject := by
  refine ⟨fun l v s x running at_ is armed => ⟨fun level other => ?_, fun set => ?_⟩,
    fun l v s x running clock is uninjected changed => fieldLineChange_changed running clock is uninjected changed,
    fun l s x check release is checkIs releaseIs => ?_⟩
  · subst is
    have done := injectLevel_injected l (some v) s
    exact ⟨_, exec_inject running at_ level (injectLine_other armed other) (by decide), done.handled.events,
      done.handled.others, done.injected, done.effective, done.physical, done.unchanged, done.changed⟩
  · subst is
    have done := injectLevel_injected l none s
    exact ⟨_, exec_endInject running at_ (endInjectLine_injected armed set) (by decide), done.handled.events,
      done.handled.others, done.injected, done.effective, done.physical, done.unchanged, done.changed⟩
  · subst is
    have atOnce : check = s.time.elapsed → (s.profileOf l).checkTime = 0 := fun e =>
      (checkTime_zero_iff s.time.elapsed _).mp (checkIs.symm.trans e)
    have later : check ≠ s.time.elapsed → (s.profileOf l).checkTime ≠ 0 := fun e z =>
      e (checkIs.trans ((checkTime_zero_iff s.time.elapsed _).mpr z))
    subst checkIs releaseIs
    refine ⟨fun c => takeChange_disarmed c, fun c => takeChange_settling c, fun c nonzero => takeChange_normal c (later nonzero),
      fun c zero => takeChange_normal_atOnce c (atOnce zero), fun c => takeChange_departing c,
      fun c nonzero => takeChange_offnormal c (later nonzero), fun c zero => takeChange_offnormal_atOnce c (atOnce zero),
      fun c => takeChange_returning c, fun c => takeChange_chatter c⟩

end Sys2Proof.Machine

/-! PROOFS. EventRecords: the records an event appends where the store has room, and what the Alarm List leaves of the store
(O31, O33, O34). -/
namespace Sys2Proof.Machine

/-! ## An append that the store has room for -/

/-- With no loss pending and 5 words left free after it a record is written (R68). -/
theorem append_fits {s : State} {stamp : Stamp} {test : Bool} {body : Body} (whole : s.store.loss = none)
    (fits : body.len + 5 ≤ s.store.free) : append stamp test body s = (s.store.next, writeRecord stamp test body s) := by
  have needs : s.store.need body.len ≤ s.store.free := by rw [Store.need_eq, whole]; exact fits
  unfold append acceptAppend
  rw [if_pos needs, writeLoss_none whole]

/-- It then stands at the newest end (R66). -/
theorem append_fits_records {s : State} {stamp : Stamp} {test : Bool} {body : Body} (whole : s.store.loss = none)
    (fits : body.len + 5 ≤ s.store.free) :
    (append stamp test body s).2.store.records = s.store.records ++ [⟨s.store.next, stamp, test, body⟩] := by
  rw [append_fits whole fits, writeRecord_store]

/-! ## The Alarm List leaves the store alone -/

@[simp] theorem alarmDeparture_store (ev : AlarmEvent) (s : State) : (alarmDeparture ev s).store = s.store := by
  unfold alarmDeparture
  split
  · rfl
  · split <;> rfl

@[simp] theorem alarmReturn_store (l : LineId) (s : State) : (alarmReturn l s).store = s.store := by
  unfold alarmReturn
  split
  · rfl
  · split <;> rfl

@[simp] theorem alarmWithdraw_store (l : LineId) (s : State) : (alarmWithdraw l s).store = s.store := by
  unfold alarmWithdraw
  split <;> rfl

@[simp] theorem alarmChatterOff_store (ev : AlarmEvent) (b : Bool) (s : State) : (alarmChatterOff ev b s).store = s.store := by
  unfold alarmChatterOff
  dsimp only
  split
  · exact alarmReturn_store _ _
  · exact alarmDeparture_store _ _

/-! ## The store after an event with one record -/

theorem classifyDisarmed_store (l : LineId) (stamp : Stamp) (test : Bool) (s : State) :
    (classifyDisarmed l stamp test s).store = (report stamp test (.disarmed l) s).store := by
  unfold classifyDisarmed
  dsimp only
  split
  · rfl
  · exact alarmWithdraw_store _ _

theorem classifyInitial_store (l : LineId) (v : Level) (stamp : Stamp) (test : Bool) (s : State) :
    (classifyInitial l v stamp test s).store = (append stamp test (.armed l v) s).2.store := by
  unfold classifyInitial
  dsimp only
  split
  · rfl
  · exact alarmDeparture_store _ _

theorem classifyChatterOff_store (l : LineId) (v : Level) (n : Word) (stamp : Stamp) (test : Bool) (s : State) :
    (classifyChatterOff l v n stamp test s).store = (append stamp test (.chatterOff l v n) s).2.store := by
  unfold classifyChatterOff
  dsimp only
  split
  · rfl
  · exact alarmChatterOff_store _ _ _

/-! ## ARM LINE and DISARM LINE (R5, R6, R16) -/

/-- What ARM LINE makes of a DISARMED line (R5). -/
def LineState.arm (x : LineState) (expires : Nat) : LineState :=
  { x with cond := .settling, qualTimer := some expires, window := none, injected := none }

theorem armDisarmed_later {l : LineId} {s : State} (check : (s.profileOf l).checkTime ≠ 0) :
    armDisarmed l s = s.setLine l ((s.lines.get l).arm (s.checkExpires l)) := if_neg check

theorem armDisarmed_atOnce {l : LineId} {s : State} (check : (s.profileOf l).checkTime = 0) :
    armDisarmed l s = qualifySettling l (s.setLine l ((s.lines.get l).arm (s.checkExpires l))) := if_pos check

theorem disarmArmed_line (l : LineId) (s : State) :
    (disarmArmed l s).lines.get l = LineState.reset (s.lines.get l).physical := by
  unfold disarmArmed
  dsimp only
  rw [setLine_lines, get_put_same, (classifyDisarmed_handled _ _ _ _).lines]

theorem disarmArmed_records {l : LineId} {s : State} (whole : s.store.loss = none) (room : 11 ≤ s.store.free) :
    (disarmArmed l s).store.records =
      s.store.records ++ [⟨s.store.next, s.now, (s.lines.get l).injected.isSome, .disarmed l⟩] := by
  show (classifyDisarmed l s.now (s.lines.get l).injected.isSome s).store.records = _
  rw [classifyDisarmed_store]
  exact append_fits_records whole room

/-- Settles O31. -/
theorem armAndDisarmLine : Obligations.ArmAndDisarmLine := by
  intro l s x check running at_ is checkIs
  subst is checkIs
  refine ⟨fun disarmed nonzero => ?_, fun disarmed zero => ?_, fun armed => ?_⟩
  · rw [exec_armLine (result := 0x0101) running at_ (armLine_disarmed disarmed) (by decide), armDisarmed_later nonzero]
    rfl
  · refine ⟨_, exec_armLine running at_ (armLine_disarmed disarmed) (by decide), (armDisarmed_handled l s).events,
      (armDisarmed_handled l s).others, ?_⟩
    rw [armDisarmed_atOnce zero, qualifySettling_line, setLine_lines, get_put_same]
    rfl
  · exact ⟨_, exec_disarmLine running at_ (disarmLine_armed armed) (by decide), (disarmArmed_handled l s).events,
      (disarmArmed_handled l s).others, disarmArmed_line l s, disarmArmed_records⟩

/-! ## The expiries of a line's timers (log 3) -/

section
variable {s : State} {l : LineId} (running : s.inReset = false) (clock : s.clockRunning = true)
include running clock

theorem qualificationExpiry_settling (timer : (s.lines.get l).qualTimer.isSome = true)
    (c : (s.lines.get l).cond = .settling) : exec (.qualificationExpiry l) s = .next (qualifySettling l s) := by
  show execQualificationExpiry l s = _
  unfold execQualificationExpiry
  dsimp only
  rw [timed_running _ running clock, if_pos timer, c]

theorem qualificationExpiry_departing (timer : (s.lines.get l).qualTimer.isSome = true)
    (c : (s.lines.get l).cond = .departing) : exec (.qualificationExpiry l) s = .next (qualifyDeparture l s) := by
  show execQualificationExpiry l s = _
  unfold execQualificationExpiry
  dsimp only
  rw [timed_running _ running clock, if_pos timer, c]

theorem qualificationExpiry_returning (timer : (s.lines.get l).qualTimer.isSome = true)
    (c : (s.lines.get l).cond = .returning) : exec (.qualificationExpiry l) s = .next (qualifyReturn l s) := by
  show execQualificationExpiry l s = _
  unfold execQualificationExpiry
  dsimp only
  rw [timed_running _ running clock, if_pos timer, c]

theorem exec_chatterWindowExpiry (l : LineId) :
    exec (.chatterWindowExpiry l) s = .next (s.setLine l { s.lines.get l with window := none }) :=
  congrArg Host.Outcome.next (timed_running _ running clock)

theorem exec_releaseExpiry (c : (s.lines.get l).cond = .chatter) (timer : (s.lines.get l).releaseTimer.isSome = true) :
    exec (.releaseExpiry l) s = .next (releaseLine l s) := by
  show execReleaseExpiry l s = _
  unfold execReleaseExpiry
  dsimp only
  rw [timed_running _ running clock, if_pos ⟨c, timer⟩]

end

/-! ## Settling (R6, R43) -/

theorem qualifySettling_eq (l : LineId) (s : State) :
    qualifySettling l s = classifyInitial l (s.lines.get l).effective s.now (s.lines.get l).injected.isSome
      (s.setLine l ((s.lines.get l).settled (s.lineTable.get l).normal)) := rfl

theorem qualifySettling_records {l : LineId} {s : State} (whole : s.store.loss = none) (room : 11 ≤ s.store.free) :
    (qualifySettling l s).store.records = s.store.records ++
      [⟨s.store.next, s.now, (s.lines.get l).injected.isSome, .armed l (s.lines.get l).effective⟩] := by
  rw [qualifySettling_eq, classifyInitial_store]
  exact append_fits_records whole room

/-! ## Departures and returns (R9, R10, R41, R42, R45) -/

/-- A LINE record is at most 8 words long (Table 20). -/
theorem lineBody_len (l : LineId) (d : Direction) (s : State) : (lineBody l d s).len ≤ 8 := by
  unfold lineBody
  dsimp only
  split <;> simp [Body.len, Body.words, maskWords]

theorem recordChange_wanted (l : LineId) (d : Direction) (stamp : Stamp) (test : Bool) (s : State) :
    recordChange true l d stamp test s =
      (some (append stamp test (lineBody l d s) s).1, (append stamp test (lineBody l d s) s).2) := rfl

/-- A departure at its group, where the line has one (R41). -/
def handGroup (g : Option GroupId) (c : Candidate) (s : State) : State := g.elim s fun k => groupDeparture k c s

theorem handGroup_handled (g : Option GroupId) (c : Candidate) (s : State) : Handled s (handGroup g c s) := by
  cases g with
  | none => exact Handled.refl s
  | some g => exact groupDeparture_handled g c s

/-- A DEPART's way after its record, whose number the blocks are given (R41). -/
def routeDepart (l : LineId) (stamp : Stamp) (test : Bool) (e : LineEntry) (num : Option Word) (s : State) : State :=
  let matched := correlate ⟨l, .depart, stamp, test, num⟩ (handGroup e.group ⟨l, stamp, test, num⟩ s)
  requestAction e.departAction
    (if e.ackMode = .off then matched else alarmDeparture ⟨l, e.priority, stamp, test, num⟩ matched)

/-- A RETURN's way after its record (R42). -/
def routeReturn (l : LineId) (stamp : Stamp) (test : Bool) (e : LineEntry) (num : Option Word) (s : State) : State :=
  let matched := correlate ⟨l, .giveBack, stamp, test, num⟩ s
  requestAction e.returnAction (if e.ackMode = .off then matched else alarmReturn l matched)

theorem classifyDepart_eq (l : LineId) (stamp : Stamp) (test : Bool) (s : State) : classifyDepart l stamp test s =
    routeDepart l stamp test (s.lineTable.get l) (recordChange (s.lineTable.get l).recordDepartures l .depart stamp test s).1
      (recordChange (s.lineTable.get l).recordDepartures l .depart stamp test s).2 := by
  unfold classifyDepart routeDepart
  dsimp only
  cases (s.lineTable.get l).group with
  | none => dsimp only [handGroup, Option.elim]
  | some g => dsimp only [handGroup, Option.elim]

theorem classifyReturn_eq (l : LineId) (stamp : Stamp) (test : Bool) (s : State) : classifyReturn l stamp test s =
    routeReturn l stamp test (s.lineTable.get l) (recordChange (s.lineTable.get l).recordReturns l .giveBack stamp test s).1
      (recordChange (s.lineTable.get l).recordReturns l .giveBack stamp test s).2 := rfl

theorem routeDepart_handled (l : LineId) (stamp : Stamp) (test : Bool) (e : LineEntry) (num : Option Word) (s : State) :
    Handled s (routeDepart l stamp test e num s) := by
  unfold routeDepart
  dsimp only
  refine Handled.trans ?_ (requestAction_handled _ _)
  refine Handled.trans (handGroup_handled e.group ⟨l, stamp, test, num⟩ s) ?_
  split
  · exact correlate_handled _ _
  · exact (correlate_handled _ _).trans (alarmDeparture_handled _ _)

theorem routeReturn_handled (l : LineId) (stamp : Stamp) (test : Bool) (e : LineEntry) (num : Option Word) (s : State) :
    Handled s (routeReturn l stamp test e num s) := by
  unfold routeReturn
  dsimp only
  refine Handled.trans ?_ (requestAction_handled _ _)
  split
  · exact correlate_handled _ _
  · exact (correlate_handled _ _).trans (alarmReturn_handled _ _)

/-- Records that follow one just appended, none of them removed. -/
theorem Grows.after_append {s t u : State} {r : Record} (grows : Grows t u) (added : t.store.records = s.store.records ++ [r]) :
    ∃ more, u.store.records = s.store.records ++ r :: more := by
  obtain ⟨more, is⟩ := grows
  exact ⟨more, by rw [is, added, List.append_assoc]; rfl⟩

/-- Under HOLD a recorded departure's LINE record is the first of those its handling appends (R41, R45). -/
theorem classifyDepart_records {l : LineId} {stamp : Stamp} {test : Bool} {s : State}
    (wanted : (s.lineTable.get l).recordDepartures = true) (hold : s.store.policy = .hold) (whole : s.store.loss = none)
    (room : 13 ≤ s.store.free) : ∃ more, (classifyDepart l stamp test s).store.records =
      s.store.records ++ ⟨s.store.next, stamp, test, lineBody l .depart s⟩ :: more := by
  rw [classifyDepart_eq, wanted, recordChange_wanted]
  have short := lineBody_len l .depart s
  have held := (append_onlyReports stamp test (lineBody l .depart s) s).policy.trans hold
  exact ((routeDepart_handled _ _ _ _ _ _).grows held).after_append (append_fits_records whole (by omega))

/-- Under HOLD a recorded return's LINE record is the first of those its handling appends (R42, R45). -/
theorem classifyReturn_records {l : LineId} {stamp : Stamp} {test : Bool} {s : State}
    (wanted : (s.lineTable.get l).recordReturns = true) (hold : s.store.policy = .hold) (whole : s.store.loss = none)
    (room : 13 ≤ s.store.free) : ∃ more, (classifyReturn l stamp test s).store.records =
      s.store.records ++ ⟨s.store.next, stamp, test, lineBody l .giveBack s⟩ :: more := by
  rw [classifyReturn_eq, wanted, recordChange_wanted]
  have short := lineBody_len l .giveBack s
  have held := (append_onlyReports stamp test (lineBody l .giveBack s) s).policy.trans hold
  exact ((routeReturn_handled _ _ _ _ _ _).grows held).after_append (append_fits_records whole (by omega))

/-- What follows under HOLD keeps them. -/
theorem Grows.keeps_added {s t u : State} {r : Record} (grows : Grows t u)
    (added : ∃ more, t.store.records = s.store.records ++ r :: more) :
    ∃ more, u.store.records = s.store.records ++ r :: more := by
  obtain ⟨later, is⟩ := grows
  obtain ⟨more, held⟩ := added
  exact ⟨more ++ later, by rw [is, held, List.append_assoc]; rfl⟩

/-! ## The count of a qualified transition at its line (R12, R13) -/

/-- What a qualified transition leaves of the chatter window: `d` is the state once the event is handed, `y` the line. -/
structure Counted (l : LineId) (edge : Stamp) (y : LineState) (limit closes : Nat) (d t : State) : Prop where
  unlimited : limit = 0 → t = d
  opens : y.window = none → 1 < limit → t = d.setLine l { y with window := some ⟨1, closes⟩ }
  raises : ∀ w, y.window = some w → w.count + 1 < limit → t = d.setLine l { y with window := some { w with count := w.count + 1 } }
  reaches : ∀ w, y.window = some w → limit ≠ 0 → limit ≤ w.count + 1 → t = enterChatter l edge d

theorem countTransition_counted {l : LineId} {edge : Stamp} {s d : State} {y : LineState} {limit closes : Nat}
    (handled : OnlyEvents s d) (line : d.lines.get l = y) (limitIs : limit = (s.profileOf l).chatterLimit.val)
    (closesIs : closes = s.inMillis (s.profileOf l).chatterWindow.toNat) :
    Counted l edge y limit closes d (countTransition l edge d) := by
  have profile := handled.profileOf l
  have limitAt : limit = (d.profileOf l).chatterLimit.val := by rw [profile, limitIs]
  have closesAt : closes = d.inMillis (d.profileOf l).chatterWindow.toNat := by rw [profile, handled.inMillis, closesIs]
  subst line limitAt closesAt
  refine ⟨fun zero => countTransition_unlimited (Fin.ext zero), fun none_ below => ?_, fun w open_ below => ?_,
    fun w open_ some_ reached => countTransition_reaches (fun e => some_ (by rw [e]; rfl)) (by rw [open_]; exact reached)⟩
  · exact countTransition_below (w := ⟨1, _⟩) (by rw [none_]; rfl) below
  · exact countTransition_below (w := { w with count := w.count + 1 }) (by rw [open_]; rfl) below

end Sys2Proof.Machine

/-! PROOFS. Qualification: the qualification timer's expiry, a DEPART's and a RETURN's handling (O33), and chatter (O34). -/
namespace Sys2Proof.Machine

/-! ## The handling of a DEPART and a RETURN, part by part -/

/-- The record of a change and the number passed on (R45, R46). -/
theorem recordChange_eq {l : LineId} {dir : Direction} {stamp : Stamp} {test wanted : Bool} {s u : State}
    {num : Option Word} {a : Word × State} (is : a = append stamp test (lineBody l dir s) s)
    (recorded : wanted = true → num = some a.1 ∧ u = a.2) (unrecorded : wanted = false → num = none ∧ u = s) :
    recordChange wanted l dir stamp test s = (num, u) := by
  cases wanted with
  | false =>
    obtain ⟨rfl, rfl⟩ := unrecorded rfl
    rfl
  | true =>
    obtain ⟨rfl, rfl⟩ := recorded rfl
    rw [is, recordChange_wanted]

/-- A requested action, or none. -/
theorem requestAction_cases {action : Option OutputId} {s t : State} (h : t = requestAction action s) :
    (action = none → t = s) ∧ ∀ q, action = some q → t = requestPulse q s :=
  ⟨fun none_ => by rw [h, none_]; rfl, fun q some_ => by rw [h, some_]; rfl⟩

theorem classifyDepart_parts {l : LineId} {stamp : Stamp} {test : Bool} {s u0 u1 u2 u3 : State} {num : Option Word}
    {e : LineEntry} (is : e = s.lineTable.get l)
    (change : recordChange e.recordDepartures l .depart stamp test s = (num, u0))
    (toGroup : ∀ g, e.group = some g → u1 = groupDeparture g ⟨l, stamp, test, num⟩ u0) (noGroup : e.group = none → u1 = u0)
    (toEngine : u2 = correlate ⟨l, .depart, stamp, test, num⟩ u1) (quiet : e.ackMode = .off → u3 = u2)
    (alarmed : e.ackMode ≠ .off → u3 = alarmDeparture ⟨l, e.priority, stamp, test, num⟩ u2) :
    classifyDepart l stamp test s = requestAction e.departAction u3 := by
  have grouped : handGroup e.group ⟨l, stamp, test, num⟩ u0 = u1 := by
    cases g : e.group with
    | none => exact (noGroup g).symm
    | some k => exact (toGroup k g).symm
  rw [classifyDepart_eq, ← is, change, routeDepart]
  dsimp only
  rw [grouped, ← toEngine]
  by_cases off : e.ackMode = .off
  · rw [if_pos off, quiet off]
  · rw [if_neg off, alarmed off]

theorem classifyReturn_parts {l : LineId} {stamp : Stamp} {test : Bool} {s u0 u2 u3 : State} {num : Option Word}
    {e : LineEntry} (is : e = s.lineTable.get l)
    (change : recordChange e.recordReturns l .giveBack stamp test s = (num, u0))
    (toEngine : u2 = correlate ⟨l, .giveBack, stamp, test, num⟩ u0) (quiet : e.ackMode = .off → u3 = u2)
    (alarmed : e.ackMode ≠ .off → u3 = alarmReturn l u2) :
    classifyReturn l stamp test s = requestAction e.returnAction u3 := by
  rw [classifyReturn_eq, ← is, change, routeReturn]
  dsimp only
  rw [← toEngine]
  by_cases off : e.ackMode = .off
  · rw [if_pos off, quiet off]
  · rw [if_neg off, alarmed off]

/-- An INITIAL's record, and its departure at the Alarm List where the line was found offnormal (R43). -/
theorem classifyInitial_parts {l : LineId} {v : Level} {stamp : Stamp} {test : Bool} {s : State} {e : LineEntry}
    {a : Word × State} (is : e = s.lineTable.get l) (recorded : a = append stamp test (.armed l v) s) :
    (e.ackMode = .off ∨ v = e.normal → classifyInitial l v stamp test s = a.2) ∧
    (e.ackMode ≠ .off → v ≠ e.normal →
      classifyInitial l v stamp test s = alarmDeparture ⟨l, e.priority, stamp, test, some a.1⟩ a.2) := by
  subst is recorded
  unfold classifyInitial
  exact ⟨fun quiet => if_pos quiet, fun acked away => if_neg (not_or.mpr ⟨acked, away⟩)⟩

/-- A CHATTER OFF's record, and its way to the Alarm List (R44). -/
theorem classifyChatterOff_parts {l : LineId} {v : Level} {n : Word} {stamp : Stamp} {test : Bool} {s : State}
    {e : LineEntry} {a : Word × State} (is : e = s.lineTable.get l)
    (recorded : a = append stamp test (.chatterOff l v n) s) :
    (e.ackMode = .off → classifyChatterOff l v n stamp test s = a.2) ∧
    (e.ackMode ≠ .off → classifyChatterOff l v n stamp test s =
      alarmChatterOff ⟨l, e.priority, stamp, test, some a.1⟩ (decide (v = e.normal)) a.2) := by
  subst is recorded
  unfold classifyChatterOff
  exact ⟨fun quiet => if_pos quiet, fun acked => if_neg acked⟩

/-- A CHATTER ON's record and cause, and its way to the Alarm List (R44). -/
theorem classifyChatterOn_parts {l : LineId} {v : Level} {stamp : Stamp} {test : Bool} {s : State} {e : LineEntry}
    {a : Word × State} (is : e = s.lineTable.get l) (recorded : a = append stamp test (.chatterOn l v) s) :
    (e.ackMode = .off → classifyChatterOn l v stamp test s = raise .chatter a.2) ∧
    (e.ackMode ≠ .off → classifyChatterOn l v stamp test s =
      alarmChatterOn ⟨l, e.priority, stamp, test, some a.1⟩ (raise .chatter a.2)) := by
  subst is recorded
  unfold classifyChatterOn
  exact ⟨fun quiet => if_pos quiet, fun acked => if_neg acked⟩

/-- A CHATTER ON sets the CHATTER cause (R44). -/
theorem classifyChatterOn_cause (l : LineId) (v : Level) (stamp : Stamp) (test : Bool) (s : State) :
    (classifyChatterOn l v stamp test s).causeSet .chatter = true := by
  obtain ⟨quiet, alarmed⟩ := classifyChatterOn_parts (v := v) (stamp := stamp) (test := test) (l := l) (s := s) rfl rfl
  by_cases off : (s.lineTable.get l).ackMode = .off
  · rw [quiet off]; exact raise_sets _ _
  · rw [alarmed off]; exact (alarmChatterOn_handled _ _).causes _ (raise_sets _ _)

/-! ## The captured edge (R9, R10) -/

theorem qualifyDeparture_at {l : LineId} {s : State} {edge : Stamp} (captured : (s.lines.get l).edge = some edge) :
    qualifyDeparture l s = countTransition l edge (handDepart l edge s) := by
  rw [qualifyDeparture_eq, captured]
  rfl

theorem qualifyReturn_at {l : LineId} {s : State} {edge : Stamp} (captured : (s.lines.get l).edge = some edge) :
    qualifyReturn l s = countTransition l edge (handReturn l edge s) := by
  rw [qualifyReturn_eq, captured]
  rfl

/-- The count of a departure's transition (R12, R13). -/
theorem handDepart_counted (l : LineId) (edge : Stamp) (s : State) :
    Counted l edge ((s.lines.get l).departed (s.lineTable.get l).normal) (s.profileOf l).chatterLimit.val
      (s.inMillis (s.profileOf l).chatterWindow.toNat) (handDepart l edge s) (countTransition l edge (handDepart l edge s)) :=
  countTransition_counted (handDepart_handled l edge s).events (handDepart_line l edge s) rfl rfl

/-- The count of a return's transition (R12, R13). -/
theorem handReturn_counted (l : LineId) (edge : Stamp) (s : State) :
    Counted l edge ((s.lines.get l).returned (s.lineTable.get l).normal) (s.profileOf l).chatterLimit.val
      (s.inMillis (s.profileOf l).chatterWindow.toNat) (handReturn l edge s) (countTransition l edge (handReturn l edge s)) :=
  countTransition_counted (handReturn_handled l edge s).events (handReturn_line l edge s) rfl rfl

/-- Settles O33: settling, departure and return by their conditioning state, then each handling part by part. -/
theorem qualificationExpiryQualifies : Obligations.QualificationExpiryQualifies := by
  refine ⟨fun l s x e limit closes running clock xIs eIs timer limitIs closesIs => ?_,
    fun l dir stamp test s u0 u1 u2 u3 num e wanted a eIs wantedIs aIs recorded unrecorded toGroup noGroup toEngine quiet
      alarmed => ?_⟩
  · subst xIs eIs limitIs closesIs
    refine ⟨fun c => ?_, fun edge y c captured yIs => ?_, fun edge y c captured yIs => ?_⟩
    · rw [qualificationExpiry_settling running clock timer c]
      refine ⟨_, rfl, (qualifySettling_handled l s).events, (qualifySettling_handled l s).others, qualifySettling_line l s,
        qualifySettling_records, fun a aIs => ?_⟩
      rw [qualifySettling_line] at aIs
      exact classifyInitial_parts rfl aIs
    · rw [qualificationExpiry_departing running clock timer c, qualifyDeparture_at captured]
      subst yIs
      have counted := handDepart_counted l edge s
      have handled := handDepart_handled l edge s
      have counting := countTransition_handled l edge (handDepart l edge s)
      refine ⟨⟨_, rfl, handled.events.trans counting.events, (handled.trans counting).others, fun zero => ?_,
        fun wanted hold whole room => ?_⟩, fun d dIs => ?_⟩
      · rw [counted.unlimited zero]
        exact handDepart_line l edge s
      · exact (counting.grows (handled.events.policy.trans hold)).keeps_added
          (classifyDepart_records wanted hold whole room)
      · subst dIs
        exact ⟨fun zero => congrArg _ (counted.unlimited zero), fun none_ below => congrArg _ (counted.opens none_ below),
          fun w open_ below => congrArg _ (counted.raises w open_ below)⟩
    · rw [qualificationExpiry_returning running clock timer c, qualifyReturn_at captured]
      subst yIs
      have counted := handReturn_counted l edge s
      have handled := handReturn_handled l edge s
      have counting := countTransition_handled l edge (handReturn l edge s)
      refine ⟨⟨_, rfl, handled.events.trans counting.events, (handled.trans counting).others, fun zero => ?_,
        fun wanted hold whole room => ?_⟩, fun d dIs => ?_⟩
      · rw [counted.unlimited zero]
        exact handReturn_line l edge s
      · exact (counting.grows (handled.events.policy.trans hold)).keeps_added
          (classifyReturn_records wanted hold whole room)
      · subst dIs
        exact ⟨fun zero => congrArg _ (counted.unlimited zero), fun none_ below => congrArg _ (counted.opens none_ below),
          fun w open_ below => congrArg _ (counted.raises w open_ below)⟩
  · subst wantedIs
    have body : a = append stamp test (lineBody l dir s) s := by rw [aIs, eIs]; rfl
    have change := recordChange_eq body recorded unrecorded
    refine ⟨fun d => requestAction_cases ?_, fun d => requestAction_cases ?_⟩
    · subst d
      exact classifyDepart_parts eIs change (toGroup rfl) (fun none_ => noGroup (.inr none_)) toEngine quiet alarmed
    · subst d
      rw [noGroup (.inl rfl)] at toEngine
      exact classifyReturn_parts eIs change toEngine quiet alarmed

/-! ## Chatter (R12 to R15) -/

theorem enterChatter_eq (l : LineId) (edge : Stamp) (s : State) : enterChatter l edge s =
    classifyChatterOn l ((s.lines.get l).qualified.getD (s.lines.get l).effective) edge (s.lines.get l).injected.isSome
      (s.setLine l ((s.lines.get l).chattering edge (s.inMillis (s.profileOf l).releaseTime.toNat))) := rfl

/-- A line that enters CHATTER after an event: its cause, what it holds, and CHATTER ON handed last (R13, R44). `x` is the line
as the event left it. -/
theorem enterChatter_begins {l : LineId} {edge : Stamp} {s d : State} {x : LineState} {v : Level} (handled : OnlyEvents s d)
    (line : d.lines.get l = x) (qualified : x.qualified = some v) :
    (enterChatter l edge d).causeSet .chatter = true ∧
    (enterChatter l edge d).lines.get l = x.chattering edge (s.inMillis (s.profileOf l).releaseTime.toNat) ∧
    ∀ a, a = append edge x.injected.isSome (.chatterOn l v) (d.setLine l ((enterChatter l edge d).lines.get l)) →
      ((s.lineTable.get l).ackMode = .off → enterChatter l edge d = raise .chatter a.2) ∧
      ((s.lineTable.get l).ackMode ≠ .off → enterChatter l edge d =
        alarmChatterOn ⟨l, (s.lineTable.get l).priority, edge, x.injected.isSome, some a.1⟩ (raise .chatter a.2)) := by
  subst line
  have entry : (d.lineTable.get l) = s.lineTable.get l := by rw [handled.lineTable]
  have held := enterChatter_line l edge d
  have handed : enterChatter l edge d = classifyChatterOn l v edge (d.lines.get l).injected.isSome
      (d.setLine l ((enterChatter l edge d).lines.get l)) := by
    rw [held, enterChatter_eq, qualified]
    rfl
  refine ⟨by rw [handed]; exact classifyChatterOn_cause _ _ _ _ _, ?_, fun a aIs => ?_⟩
  · rw [held, handled.profileOf, handled.inMillis]
  · have parts := classifyChatterOn_parts (s := d.setLine l ((enterChatter l edge d).lines.get l)) rfl aIs
    rw [← handed, setLine_lineTable, entry] at parts
    exact parts

theorem releaseLine_eq (l : LineId) (s : State) : releaseLine l s =
    classifyChatterOff l (s.lines.get l).effective (s.lines.get l).suppressed ((s.lines.get l).lastChange.getD s.now)
      (s.lines.get l).injected.isSome (s.setLine l ((s.lines.get l).released (s.lineTable.get l).normal)) := rfl

/-- Settles O34. -/
theorem chatterBeginsAndEnds : Obligations.ChatterBeginsAndEnds := by
  intro l s x e running clock xIs eIs
  subst xIs eIs
  refine ⟨fun edge w timer cond captured open_ some_ reached => ?_, exec_chatterWindowExpiry running clock l,
    fun last c timer lastIs => ?_⟩
  · have limited : (s.profileOf l).chatterLimit.val ≠ 0 := fun zero => some_ (Fin.ext zero)
    rcases cond with c | c
    · rw [qualificationExpiry_departing running clock timer c, qualifyDeparture_at captured,
        (handDepart_counted l edge s).reaches w open_ limited reached]
      obtain ⟨cause, line, handed⟩ := enterChatter_begins (l := l) (edge := edge) (handDepart_handled l edge s).events
        (handDepart_line l edge s) rfl
      refine ⟨_, rfl, cause, by rw [line, if_pos c]; rfl, fun d a y yIs departed _ aIs => ?_⟩
      subst yIs
      rw [departed c, if_pos c] at aIs
      exact handed a aIs
    · have away : (s.lines.get l).cond ≠ .departing := by rw [c]; decide
      rw [qualificationExpiry_returning running clock timer c, qualifyReturn_at captured,
        (handReturn_counted l edge s).reaches w open_ limited reached]
      obtain ⟨cause, line, handed⟩ := enterChatter_begins (l := l) (edge := edge) (handReturn_handled l edge s).events
        (handReturn_line l edge s) rfl
      refine ⟨_, rfl, cause, by rw [line, if_neg away]; rfl, fun d a y yIs _ returned aIs => ?_⟩
      subst yIs
      rw [returned c, if_neg away] at aIs
      exact handed a aIs
  · rw [exec_releaseExpiry running clock c timer]
    refine ⟨_, rfl, (releaseLine_handled l s).events, (releaseLine_handled l s).others, releaseLine_line l s,
      fun whole room => ?_, fun a aIs => ?_⟩
    · rw [releaseLine_eq, lastIs, classifyChatterOff_store]
      exact append_fits_records whole room
    · rw [releaseLine_line] at aIs
      rw [releaseLine_eq, lastIs]
      exact classifyChatterOff_parts rfl aIs

end Sys2Proof.Machine

/-! PROOFS. TableWords: the fields of the table and page words (Tables 43 and 44, R199), and the port reads (O52). Each packed word
is first the number its fields spell, from which each field is read off. -/
namespace Sys2Proof

/-- A level's bit says HIGH (Table 39). -/
theorem Level.code_eq_toNat (v : Level) : v.code = (decide (v = .high)).toNat := by cases v <;> rfl

end Sys2Proof

namespace Sys2Proof.Machine

/-! ## LINE entries (Table 43) -/

theorem LineEntry.word0_fields (e : LineEntry) :
    e.word0.getLsbD 0 = decide (e.normal = .high) ∧ e.word0.toNat / 2 % 4 = e.profile.val ∧ e.word0.getLsbD 3 = e.snapshot ∧
    e.word0.toNat / 16 % 4 = e.ackMode.code ∧ e.word0.getLsbD 6 = e.recordDepartures ∧
    e.word0.getLsbD 7 = e.recordReturns ∧ e.word0.toNat / 256 % 16 = e.cls.toNat ∧
    e.word0.toNat / 4096 = e.priority.val := by
  have normal := Level.code_eq_toNat e.normal
  have level := Bool.toNat_lt (decide (e.normal = .high))
  have snapshot := Bool.toNat_lt e.snapshot
  have ack := AckMode.code_lt e.ackMode
  have departures := Bool.toNat_lt e.recordDepartures
  have returns := Bool.toNat_lt e.recordReturns
  have cls := e.cls.isLt
  have profile := e.profile.isLt
  have priority := e.priority.isLt
  have spelled := toWord_toNat (n := e.normal.code + 2 * e.profile.val + 8 * e.snapshot.toNat + 16 * e.ackMode.code +
    64 * e.recordDepartures.toNat + 128 * e.recordReturns.toNat + 256 * e.cls.toNat + 4096 * e.priority.val) (by omega)
  change e.word0.toNat = _ at spelled
  refine ⟨getLsbD_of_field ?_, ?_, getLsbD_of_field ?_, ?_, getLsbD_of_field ?_, getLsbD_of_field ?_, ?_, ?_⟩ <;> omega

theorem LineEntry.word1_fields (e : LineEntry) :
    e.word1.toNat % 16 = optionCode e.group ∧ e.word1.toNat / 16 % 16 = optionCode e.departAction ∧
    e.word1.toNat / 256 = optionCode e.returnAction := by
  have group := optionCode_lt e.group
  have departs := optionCode_lt e.departAction
  have returns := optionCode_lt e.returnAction
  have spelled := toWord_toNat (n := optionCode e.group + 16 * optionCode e.departAction + 256 * optionCode e.returnAction)
    (by omega)
  change e.word1.toNat = _ at spelled
  refine ⟨?_, ?_, ?_⟩ <;> omega

/-- The injected level's bit says that HIGH is injected (R21). -/
theorem injectedCode_eq_toNat (v : Option Level) : injectedCode v = (decide (v = some .high)).toNat := by
  rcases v with _ | v
  · rfl
  · cases v <;> rfl

theorem qualifiedCode_lt (v : Option Level) : qualifiedCode v < 3 := by
  rcases v with _ | v
  · decide
  · cases v <;> decide

theorem windowCount_lt (w : Option ChatterWindow) : windowCount w < 16 := by
  cases w with
  | none => decide
  | some x => exact Nat.mod_lt _ (by decide)

theorem LineState.statusWord_fields (x : LineState) :
    x.statusWord.toNat % 8 = x.cond.code ∧ x.statusWord.getLsbD 3 = x.injected.isSome ∧
    x.statusWord.getLsbD 4 = decide (x.injected = some .high) ∧ x.statusWord.toNat / 32 % 4 = qualifiedCode x.qualified ∧
    x.statusWord.getLsbD 7 = x.window.isSome ∧ x.statusWord.toNat / 256 = windowCount x.window := by
  have cond := Cond.code_lt x.cond
  have test := Bool.toNat_lt x.injected.isSome
  have injected := injectedCode_eq_toNat x.injected
  have level := Bool.toNat_lt (decide (x.injected = some .high))
  have qualified := qualifiedCode_lt x.qualified
  have window := Bool.toNat_lt x.window.isSome
  have count := windowCount_lt x.window
  have spelled := toWord_toNat (n := x.cond.code + 8 * x.injected.isSome.toNat + 16 * injectedCode x.injected +
    32 * qualifiedCode x.qualified + 128 * x.window.isSome.toNat + 256 * windowCount x.window) (by omega)
  change x.statusWord.toNat = _ at spelled
  refine ⟨?_, getLsbD_of_field ?_, getLsbD_of_field ?_, ?_, getLsbD_of_field ?_, ?_⟩ <;> omega

theorem AlarmEntry.status4_fields (e : AlarmEntry) {place : Nat} (h : place < 64) :
    (e.statusWord place 4).getLsbD 0 = true ∧ (e.statusWord place 4).toNat / 2 % 4 = e.phase.code ∧
    (e.statusWord place 4).toNat / 8 % 4 = e.priority.val ∧ (e.statusWord place 4).getLsbD 5 = e.chatter ∧
    (e.statusWord place 4).getLsbD 6 = e.silenced ∧ (e.statusWord place 4).getLsbD 7 = e.test ∧
    (e.statusWord place 4).getLsbD 8 = e.timer.isSome ∧ (e.statusWord place 4).getLsbD 9 = e.ref.isSome ∧
    (e.statusWord place 4).toNat / 1024 = place := by
  have phase := AlarmPhase.code_lt e.phase
  have priority := e.priority.isLt
  have chatter := Bool.toNat_lt e.chatter
  have silenced := Bool.toNat_lt e.silenced
  have test := Bool.toNat_lt e.test
  have timer := Bool.toNat_lt e.timer.isSome
  have ref := Bool.toNat_lt e.ref.isSome
  have spelled := toWord_toNat (n := 1 + 2 * e.phase.code + 8 * e.priority.val + 32 * e.chatter.toNat +
    64 * e.silenced.toNat + 128 * e.test.toNat + 256 * e.timer.isSome.toNat + 512 * e.ref.isSome.toNat +
    1024 * (place % 64)) (by omega)
  change (e.statusWord place 4).toNat = _ at spelled
  refine ⟨getLsbD_of_field ?_, ?_, ?_, getLsbD_of_field ?_, getLsbD_of_field ?_, getLsbD_of_field ?_, getLsbD_of_field ?_,
    getLsbD_of_field ?_, ?_⟩
  · rw [Bool.toNat_true]; omega
  all_goals omega

theorem AlarmEntry.status5_fields (e : AlarmEntry) (place : Nat) :
    (e.statusWord place 5).toNat % 256 = e.repeats.toNat ∧ (e.statusWord place 5).toNat / 256 = e.first.quality.code := by
  have repeats := e.repeats.isLt
  have quality := Quality.code_lt e.first.quality
  have spelled := toWord_toNat (n := e.repeats.toNat + 256 * e.first.quality.code) (by omega)
  change (e.statusWord place 5).toNat = _ at spelled
  refine ⟨?_, ?_⟩ <;> omega

/-- Words 4 to 9 of a line without an entry read 0 (R148). -/
theorem lineWord_noAlarm {s : State} {l : LineId} {n : Nat} (h : s.alarmOf l = none) (high : 4 ≤ n) : s.lineWord l n = 0 := by
  obtain ⟨k, rfl⟩ := Nat.exists_eq_add_of_le' high
  simp [State.lineWord, h]

/-- Words 4 to 9 of a line with an entry are the entry's (R148). -/
theorem lineWord_alarm {s : State} {l : LineId} {n : Nat} {e : AlarmEntry} (h : s.alarmOf l = some e) (high : 4 ≤ n) :
    s.lineWord l n = e.statusWord (s.alarmPlace l) n := by
  obtain ⟨k, rfl⟩ := Nat.exists_eq_add_of_le' high
  simp [State.lineWord, h]

/-- A list with one entry for each line has at most 32 (R130). -/
theorem entries_length_le {es : List AlarmEntry} (once : (es.map AlarmEntry.line).Nodup) : es.length ≤ 32 := by
  have bound := once.length_le_card
  rwa [List.length_map, Fintype.card_fin] at bound

/-- The words of a LINE entry (Table 43). -/
theorem lineWords_read (s : State) (l : LineId) (e : LineEntry) (x : LineState) (w : Nat → Word) (eIs : e = s.lineTable.get l)
    (xIs : x = s.lines.get l) (wIs : w = fun n => s.lineWord l n) :
    w 0 = e.word0 ∧ w 1 = e.word1 ∧ w 2 = x.statusWord ∧ w 3 = (if x.cond = .chatter then x.suppressed else 0) ∧
    (s.alarmOf l = none → ∀ n, 4 ≤ n → n ≤ 9 → w n = 0) ∧
    ∀ (i : Nat) (a : AlarmEntry), (s.alarms.entries.map AlarmEntry.line).Nodup → s.alarms.entries[i]? = some a → a.line = l →
      i + 1 < 64 ∧ ∀ n, 4 ≤ n → w n = a.statusWord (i + 1) n := by
  subst eIs xIs wIs
  refine ⟨rfl, rfl, rfl, rfl, fun none_ n high _ => lineWord_noAlarm none_ high, fun i a once at_ line => ?_⟩
  subst line
  obtain ⟨found, place⟩ := alarmOf_of_place once at_
  obtain ⟨inside, -⟩ := List.getElem?_eq_some_iff.mp at_
  have few := entries_length_le once
  refine ⟨by omega, fun n high => ?_⟩
  dsimp only
  rw [lineWord_alarm found high, place]

/-! ## GROUP entries (Table 43, R57) -/

/-- A number below 65536 spelled by a word is the word. -/
theorem toWord_toNat_self (w : Word) : toWord w.toNat = w := BitVec.ofNat_toNat 16 w

theorem firstOutWord_lt (f : Option FirstOut) : firstOutWord f 1 < 16384 := by
  cases f with
  | none => decide
  | some x =>
    have ref := Bool.toNat_lt x.ref.isSome
    have quality := Quality.code_lt x.stamp.quality
    have line := x.line.isLt
    show 8 * x.ref.isSome.toNat + 16 * x.stamp.quality.code + 256 * x.line.val + 8192 < 16384
    omega

/-- A first-out's part of GROUP word 1 begins at bit 3. -/
theorem firstOutWord_mod (f : Option FirstOut) : firstOutWord f 1 % 8 = 0 := by
  cases f with
  | none => rfl
  | some x =>
    show (8 * x.ref.isSome.toNat + 16 * x.stamp.quality.code + 256 * x.line.val + 8192) % 8 = 0
    omega

theorem FirstOutGroup.word1_fields (x : FirstOutGroup) :
    (x.word 1).toNat % 4 = x.phase.code ∧ (x.word 1).getLsbD 2 = x.discontinuity ∧
    (x.word 1).toNat / 8 = firstOutWord x.firstOut 1 / 8 := by
  have phase := GroupPhase.code_lt x.phase
  have discontinuity := Bool.toNat_lt x.discontinuity
  have small := firstOutWord_lt x.firstOut
  have aligned := firstOutWord_mod x.firstOut
  have spelled := toWord_toNat (n := x.phase.code + 4 * x.discontinuity.toNat + firstOutWord x.firstOut 1) (by omega)
  change (x.word 1).toNat = _ at spelled
  refine ⟨?_, getLsbD_of_field ?_, ?_⟩ <;> omega

theorem FirstOutGroup.firstOut_fields {x : FirstOutGroup} {f : FirstOut} (h : x.firstOut = some f) :
    (x.word 1).getLsbD 3 = f.ref.isSome ∧ (x.word 1).toNat / 16 % 16 = f.stamp.quality.code ∧
    (x.word 1).toNat / 256 % 32 = f.line.val ∧ (x.word 1).toNat / 8192 = 1 := by
  have ref := Bool.toNat_lt f.ref.isSome
  have quality := Quality.code_lt f.stamp.quality
  have line := f.line.isLt
  have upper := x.word1_fields.2.2
  have spelled : firstOutWord x.firstOut 1 = 8 * f.ref.isSome.toNat + 16 * f.stamp.quality.code + 256 * f.line.val + 8192 := by
    rw [h]
    rfl
  refine ⟨getLsbD_of_field ?_, ?_, ?_, ?_⟩ <;> omega

/-- Words 6 to 9 are the first-out's (R57). -/
theorem FirstOutGroup.firstOut_words {x : FirstOutGroup} {f : FirstOut} (h : x.firstOut = some f) :
    x.word 6 = f.ref.getD 0 ∧ x.word 7 = f.stamp.time.extractLsb' 32 16 ∧ x.word 8 = f.stamp.time.extractLsb' 16 16 ∧
    x.word 9 = f.stamp.time.extractLsb' 0 16 := by
  unfold FirstOutGroup.word firstOutWord
  rw [h]
  exact ⟨toWord_toNat_self _, toWord_toNat_self _, toWord_toNat_self _, toWord_toNat_self _⟩

/-- With no first-out its items read 0 (log 16). -/
theorem FirstOutGroup.noFirstOut_words {x : FirstOutGroup} (h : x.firstOut = none) :
    (x.word 1).toNat / 8 = 0 ∧ x.word 6 = 0 ∧ x.word 7 = 0 ∧ x.word 8 = 0 ∧ x.word 9 = 0 := by
  have upper := x.word1_fields.2.2
  rw [h] at upper
  refine ⟨upper, ?_⟩
  unfold FirstOutGroup.word firstOutWord
  rw [h]
  exact ⟨rfl, rfl, rfl, rfl⟩

/-- Words 4 and 5 are the status mask, F0 to F15 first (R201). -/
theorem FirstOutGroup.mask_words (x : FirstOutGroup) (j : LineId) :
    (x.word (4 + j.val / 16)).getLsbD (j.val % 16) = x.statusMask.getLsbD j.val := by
  have two : j.val / 16 = 0 ∨ j.val / 16 = 1 := by have := j.isLt; omega
  rcases two with h | h <;> rw [h]
  · show (x.statusMask.extractLsb' 0 16).getLsbD (j.val % 16) = _
    rw [extractLsb'_getLsbD _ _ _ (by omega)]
    congr 1
    omega
  · show (x.statusMask.extractLsb' 16 16).getLsbD (j.val % 16) = _
    rw [extractLsb'_getLsbD _ _ _ (by omega)]
    congr 1
    omega

/-- Word 2 counts what the mask shows (Table 43). -/
theorem FirstOutGroup.word2_toNat (x : FirstOutGroup) : (x.word 2).toNat = x.statusCount % 64 :=
  toWord_toNat (by omega)

/-- The words of 0 are 0. -/
theorem extractLsb'_zero (start : Nat) : (0 : BitVec 32).extractLsb' start 16 = 0 := by simp

/-- The status words of a CLEAR group read 0 (R57). -/
theorem FirstOutGroup.cleared_word (window : Word) {n : Nat} (low : 1 ≤ n) (high : n ≤ 9) :
    (FirstOutGroup.cleared window).word n = 0 := by
  interval_cases n
  · rfl
  · rfl
  · rfl
  · exact extractLsb'_zero 0
  · exact extractLsb'_zero 16
  · rfl
  · rfl
  · rfl
  · rfl

/-! ## RULE, OUTPUT, PROFILE and ESCALATION entries (Table 44) -/

theorem CorrRule.word0_fields (r : CorrRule) :
    (r.word 0).toNat % 8 = r.stepCount % 8 ∧ (r.word 0).getLsbD 3 = r.ordered ∧ (r.word 0).getLsbD 4 = r.recordLapses ∧
    (r.word 0).toNat / 32 % 8 = r.limit % 8 ∧ (r.word 0).toNat / 256 = optionCode r.action := by
  have ordered := Bool.toNat_lt r.ordered
  have lapses := Bool.toNat_lt r.recordLapses
  have action := optionCode_lt r.action
  have spelled := toWord_toNat (n := r.stepCount % 8 + 8 * r.ordered.toNat + 16 * r.recordLapses.toNat +
    32 * (r.limit % 8) + 256 * optionCode r.action) (by omega)
  change (r.word 0).toNat = _ at spelled
  refine ⟨?_, getLsbD_of_field ?_, getLsbD_of_field ?_, ?_, ?_⟩ <;> omega

theorem RuleStep.word_fields (st : RuleStep) :
    st.word.toNat % 32 = st.line.val ∧ st.word.toNat / 32 = st.direction.code := by
  have line := st.line.isLt
  have direction := Direction.code_lt st.direction
  have spelled := toWord_toNat (n := st.line.val + 32 * st.direction.code) (by omega)
  change st.word.toNat = _ at spelled
  refine ⟨?_, ?_⟩ <;> omega

/-- Words 1 to 4 are the steps. -/
theorem CorrRule.word_step (r : CorrRule) (p : Fin 4) : r.word (1 + p.val) = (r.steps.get p).word := by
  fin_cases p <;> rfl

theorem CorrRule.word7_fields (r : CorrRule) :
    (r.word 7).getLsbD 0 = r.enabled ∧ (r.word 7).toNat / 2 = r.contexts.length % 8 := by
  have enabled := Bool.toNat_lt r.enabled
  have spelled := toWord_toNat (n := r.enabled.toNat + 2 * (r.contexts.length % 8)) (by omega)
  change (r.word 7).toNat = _ at spelled
  refine ⟨getLsbD_of_field ?_, ?_⟩ <;> omega

/-- A polarity's bit says ACTIVE LOW (Table 44). -/
theorem Polarity.code_eq_toNat (p : Polarity) : p.code = (decide (p = .activeLow)).toNat := by cases p <;> rfl

theorem OutputLine.word0_fields (o : OutputLine) :
    o.word0.toNat % 4 = o.mode.code ∧ o.word0.toNat / 4 % 4 = o.drive.code ∧
    o.word0.getLsbD 4 = decide (o.polarity = .activeLow) ∧ o.word0.toNat / 32 % 8 = o.threshold.val ∧
    o.word0.toNat / 256 = o.retrigger.code := by
  have mode := OutputMode.code_lt o.mode
  have drive := Drive.code_lt o.drive
  have polarity := Polarity.code_eq_toNat o.polarity
  have low := Bool.toNat_lt (decide (o.polarity = .activeLow))
  have threshold := o.threshold.isLt
  have retrigger := Retrigger.code_lt o.retrigger
  have spelled := toWord_toNat (n := o.mode.code + 4 * o.drive.code + 16 * o.polarity.code + 32 * o.threshold.val +
    256 * o.retrigger.code) (by omega)
  change o.word0.toNat = _ at spelled
  refine ⟨?_, ?_, getLsbD_of_field ?_, ?_, ?_⟩ <;> omega

theorem State.outputStatus_fields (s : State) (q : OutputId) (o : OutputLine) (is : o = s.outputs.lines.get q) :
    (s.outputStatus q).getLsbD 0 = s.outputs.computed q ∧
    (s.outputStatus q).getLsbD 1 = decide (s.outputPin q ≠ .released) ∧ (s.outputStatus q).toNat / 4 % 4 = o.phase.code ∧
    (s.outputStatus q).getLsbD 4 = decide (o.phase = .pulsing ∧ o.timer.isSome = true) ∧
    (s.outputStatus q).getLsbD 5 = decide (o.phase = .gap ∧ o.timer.isSome = true) ∧
    (s.outputStatus q).toNat / 64 % 4 = 0 ∧ (s.outputStatus q).toNat / 256 = o.queued % 16 := by
  have level := Bool.toNat_lt (s.outputs.computed q)
  have driven := Bool.toNat_lt (decide (s.outputPin q ≠ .released))
  have phase := PulsePhase.code_lt o.phase
  have pulsing := Bool.toNat_lt (decide (o.phase = .pulsing ∧ o.timer.isSome = true))
  have gap := Bool.toNat_lt (decide (o.phase = .gap ∧ o.timer.isSome = true))
  have spelled := toWord_toNat (n := (s.outputs.computed q).toNat + 2 * (decide (s.outputPin q ≠ .released)).toNat +
    4 * o.phase.code + 16 * (decide (o.phase = .pulsing ∧ o.timer.isSome = true)).toNat +
    32 * (decide (o.phase = .gap ∧ o.timer.isSome = true)).toNat + 256 * (o.queued % 16)) (by omega)
  have word : (s.outputStatus q).toNat = _ := Eq.trans (by rw [is]; rfl) spelled
  refine ⟨getLsbD_of_field ?_, getLsbD_of_field ?_, ?_, getLsbD_of_field ?_, getLsbD_of_field ?_, ?_, ?_⟩ <;> omega

theorem Profile.word1_toNat (p : Profile) : (p.word 1).toNat = p.chatterLimit.val :=
  toWord_toNat (by have := p.chatterLimit.isLt; omega)

theorem EscalationEntry.word1_toNat (e : EscalationEntry) : (e.word 1).toNat = optionCode e.action :=
  toWord_toNat (by have := optionCode_lt e.action; omega)

/-! ## Pages (R199) -/

theorem numberOf_eq (r : Option Record) : numberOf r = (r.map Record.number).getD 0 := by cases r <;> rfl

theorem Store.pageWord_whole {st : Store} (h : st.loss = none) : st.pageWord 4 = 0 ∧ st.pageWord 5 = 0 ∧ st.pageWord 6 = 0 := by
  unfold Store.pageWord Store.pendingCount Store.firstLost
  rw [h]
  exact ⟨extractLsb'_zero 16, extractLsb'_zero 0, rfl⟩

theorem Store.pageWord_pending {st : Store} {p : PendingLoss} (h : st.loss = some p) :
    st.pageWord 4 = p.count.extractLsb' 16 16 ∧ st.pageWord 5 = p.count.extractLsb' 0 16 ∧ st.pageWord 6 = p.first := by
  unfold Store.pageWord Store.pendingCount Store.firstLost
  rw [h]
  exact ⟨rfl, rfl, rfl⟩

/-- A position of an alarm mask (R148). -/
theorem alarmMask_getLsbD (s : State) (p : AlarmEntry → Bool) (j : LineId) :
    (s.alarmMask p).getLsbD j.val = s.alarms.entries.any fun e => e.line = j && p e := maskOf_getLsbD _ j

/-- The same said with one condition. -/
theorem alarmMask_phase_getLsbD (s : State) (phase : AlarmPhase) (j : LineId) :
    (s.alarmMask fun e => e.phase = phase).getLsbD j.val =
      s.alarms.entries.any fun e => decide (e.line = j ∧ e.phase = phase) := by
  rw [alarmMask_getLsbD]
  simp

/-! ## The ports (R195, R196) -/

/-- The address after a data access (R195). -/
theorem PortAddress.step_eq {p : PortAddress} {entries words : Nat} (shape : tableShape p.select = some (entries, words)) :
    p.step = if p.offset + 1 < words then { p with offset := p.offset + 1 }
      else if p.index + 1 < entries then { p with index := p.index + 1, offset := 0 }
      else { p with index := 0, offset := 0 } := by
  unfold PortAddress.step
  rw [shape]

theorem tableStatusWord_none {s : State} (h : s.tableStatus = none) : s.tableStatusWord = 0 := by
  simp [State.tableStatusWord, h]

theorem tableStatusWord_some {s : State} {r : ResultCode} (h : s.tableStatus = some r) :
    s.tableStatusWord = BitVec.ofNat 16 (1 + 16 * r.code) := by
  simp [State.tableStatusWord, h, toWord]

/-- A data read returns the addressed word and steps its own port (R195, R197). -/
theorem portReads_step (s : State) (running : s.inReset = false) {entries words : Nat} {p q : PortAddress}
    (shape : tableShape p.select = some (entries, words))
    (next : q = if p.offset + 1 < words then { p with offset := p.offset + 1 }
      else if p.index + 1 < entries then { p with index := p.index + 1, offset := 0 } else { p with index := 0, offset := 0 }) :
    (p = s.ports.control → exec .tableDataRead s = .next { s with lastRead := s.tableWord p, ports := ⟨q, s.ports.archive⟩ }) ∧
    (p = s.ports.archive → exec .mirrorDataRead s = .next { s with lastRead := s.tableWord p, ports := ⟨s.ports.control, q⟩ }) := by
  rw [← PortAddress.step_eq shape] at next
  subst next
  constructor
  · rintro rfl
    exact congrArg Host.Outcome.next (readStrobe_running _ _ running)
  · rintro rfl
    exact congrArg Host.Outcome.next (readStrobe_running _ _ running)

/-- A read of TABLE STATUS returns the flag with its reason and clears both (R196). -/
theorem exec_tableStatusRead (s : State) (running : s.inReset = false) :
    exec .tableStatusRead s = .next { s with lastRead := s.tableStatusWord, tableStatus := none } :=
  congrArg Host.Outcome.next (readStrobe_running _ _ running)

/-- Settles O52: the ports first, then each select's words, then the codes. -/
theorem portReadsReturnAndStep : Obligations.PortReadsReturnAndStep := by
  refine ⟨fun s p q entries words running => ⟨fun shape _ _ next => portReads_step s running shape next, fun none_ => ?_,
    fun r some_ => ?_⟩, fun s l e x w eIs xIs wIs => ?_, fun s k x w is wIs => ?_, fun s g x w is wIs => ?_,
    fun s r x w is wIs => ?_, fun s q o w is wIs => ?_, fun s k x w is wIs => ?_, fun s w wIs => ?_,
    fun s w v wIs vIs j x b n is bIs nIs => ?_, by decide⟩
  · rw [exec_tableStatusRead s running, tableStatusWord_none none_]
    rw [← none_]
  · rw [exec_tableStatusRead s running, tableStatusWord_some some_]
  · simp only [tableWord_line] at wIs
    obtain ⟨w0, w1, w2, w3, quiet, alarmed⟩ := lineWords_read s l e x w eIs xIs wIs
    rw [w0, w1, w2]
    obtain ⟨cond, test, injected, qualified, window, count⟩ := x.statusWord_fields
    refine ⟨e.word0_fields, ?_, ⟨cond, test, injected, ?_, window, ?_⟩, w3, quiet, fun i a once at_ line => ?_⟩
    · rw [← optionCode_eq, ← optionCode_eq, ← optionCode_eq]
      exact e.word1_fields
    · rw [qualified]
      rcases x.qualified with _ | v
      · rfl
      · cases v <;> rfl
    · rw [count]
      cases x.window <;> rfl
    · obtain ⟨few, words⟩ := alarmed i a once at_ line
      rw [words 4 (by decide), words 5 (by decide), words 6 (by decide), words 7 (by decide), words 8 (by decide),
        words 9 (by decide)]
      obtain ⟨repeats, quality⟩ := a.status5_fields (i + 1)
      exact ⟨a.status4_fields few, repeats, quality, rfl, rfl, rfl, rfl⟩
  · simp only [tableWord_profile, ← is] at wIs
    subst wIs
    exact ⟨rfl, x.word1_toNat, rfl, rfl⟩
  · simp only [tableWord_group, ← is] at wIs
    subst wIs
    obtain ⟨phase, discontinuity, -⟩ := x.word1_fields
    refine ⟨rfl, phase, discontinuity, ?_, rfl, fun j => ?_, x.noFirstOut_words, fun f some_ => ?_, fun legal clear n low high => ?_⟩
    · rw [x.word2_toNat, FirstOutGroup.statusCount]
      cases x.phase <;> rfl
    · rw [x.mask_words, FirstOutGroup.statusMask]
      cases x.phase with
      | clear => simp
      | resolving => exact maskOf_getLsbD _ j
      | tripped => rfl
    · obtain ⟨ref, quality, line, flag⟩ := FirstOutGroup.firstOut_fields some_
      exact ⟨ref, quality, line, flag, FirstOutGroup.firstOut_words some_⟩
    · unfold FirstOutGroup.legal at legal
      rw [clear] at legal
      dsimp only
      rw [legal]
      exact FirstOutGroup.cleared_word _ low high
  · simp only [tableWord_rule, ← is] at wIs
    subst wIs
    refine ⟨?_, fun p => ?_, rfl, rfl, x.word7_fields.1, x.word7_fields.2, rfl, rfl, rfl⟩
    · rw [← optionCode_eq]
      exact x.word0_fields
    · dsimp only
      rw [x.word_step]
      exact (x.steps.get p).word_fields
  · simp only [tableWord_output] at wIs
    subst wIs
    rw [is]
    exact ⟨(s.outputs.lines.get q).word0_fields, rfl, rfl, s.outputStatus_fields q _ rfl, rfl⟩
  · simp only [tableWord_escalation, ← is] at wIs
    subst wIs
    rw [← optionCode_eq]
    exact ⟨rfl, x.word1_toNat⟩
  · subst wIs
    exact ⟨rfl, numberOf_eq _, numberOf_eq _, rfl, Store.pageWord_whole, fun p => Store.pageWord_pending⟩
  · subst wIs vIs is bIs nIs
    obtain ⟨effective, offnormal, armed, chatter⟩ :=
      maskPage_getLsbD s.effectiveMask s.offnormalMask s.armedMask s.chatterMask j
    obtain ⟨alert, acked, returned, silenced⟩ := maskPage_getLsbD (s.alarmMask fun e => e.phase = .alert)
      (s.alarmMask fun e => e.phase = .acked) (s.alarmMask fun e => e.phase = .returned) (s.alarmMask fun e => e.silenced) j
    refine ⟨effective.trans (maskOf_getLsbD _ j), offnormal.trans ((maskOf_getLsbD _ j).trans ?_),
      armed.trans (maskOf_getLsbD _ j), chatter.trans (maskOf_getLsbD _ j), alert.trans (alarmMask_phase_getLsbD s _ j),
      acked.trans (alarmMask_phase_getLsbD s _ j), returned.trans (alarmMask_phase_getLsbD s _ j),
      silenced.trans (alarmMask_getLsbD s _ j)⟩
    simp [State.lineOffnormal, LineState.armed]

end Sys2Proof.Machine

/-! PROOFS. KnownBeginning: RESTART returns the part to a known beginning (O60). The RESTART record and each ARMED record find room,
so each append only writes; what holds after the lines settled so far is carried from line to line (R192, step 5). -/
namespace Sys2Proof.Machine

/-! ## Channels that have counted the records since RESTART (R87, R101, R102, R106) -/

/-- A channel that RESTART has torn and that has then counted n records. -/
def Channel.tallied (c : Channel) (n elapsed : Nat) : Channel :=
  { c with
    unread := if c.enabled then n else 0
    offset := 0
    torn := c.torn || (c.enabled && decide (0 < c.offset))
    holdoffTimer := if c.enabled = true ∧ c.holdoff ≠ 0 ∧ n ≠ 0 then some (elapsed + 1000 * c.holdoff.toNat) else none }

/-- Half h of t has counted n records since RESTART in s: its channel, its READY flag, and no other flag set. -/
structure Tallied (s : State) (n : Nat) (h : Half) (t : State) : Prop where
  channel : t.channels.get h = (s.channels.get h).tallied n s.time.elapsed
  ready : t.channelCauseSet h .ready = ((s.channels.get h).enabled &&
    decide (0 < (s.channels.get h).threshold.toNat ∧ (s.channels.get h).threshold.toNat ≤ n))
  others : ∀ c, c ≠ .ready → t.channelCauseSet h c = false

/-- A state with the same channel and the same flags. -/
theorem Tallied.of_same {s t u : State} {n : Nat} {h : Half} (a : Tallied s n h t)
    (channel : u.channels.get h = t.channels.get h) (flags : u.irq.channel.get h = t.irq.channel.get h) : Tallied s n h u := by
  have cause : ∀ c, u.channelCauseSet h c = t.channelCauseSet h c := fun c => by
    rw [State.channelCauseSet, State.channelCauseSet, flags]
  exact ⟨channel.trans a.channel, (cause _).trans a.ready, fun c ne => (cause c).trans (a.others c ne)⟩

/-- The channel's own append notice counts one more (R87). -/
theorem Tallied.appendNotice_own {s t : State} {n : Nat} {h : Half} (a : Tallied s n h t) (time : t.time = s.time) :
    Tallied s (n + 1) h (appendNotice h t) := by
  have channel := a.channel
  have ready := a.ready
  cases enabled : (s.channels.get h).enabled with
  | false =>
    have off : (t.channels.get h).enabled = false := by rw [channel]; exact enabled
    rw [appendNotice_disabled off]
    exact ⟨by rw [channel]; simp [Channel.tallied, enabled], by rw [ready]; simp [enabled], a.others⟩
  | true =>
    have on : (t.channels.get h).enabled = true := by rw [channel]; exact enabled
    refine ⟨?_, ?_, fun c ne => (appendNotice_other h t c ne).trans (a.others c ne)⟩
    · rw [Machine.appendNotice_own on, channel, State.inMillis, time]
      by_cases first : n = 0 <;> simp [Channel.tallied, enabled, first]
    · rw [appendNotice_ready on, ready, channel]
      simp only [Channel.tallied, enabled, if_true, Bool.true_and]
      rw [← Bool.decide_or]
      exact decide_eq_decide.mpr (by omega)

/-- The other half's notice leaves the count alone. -/
theorem Tallied.appendNotice_other {s t : State} {n : Nat} {h k : Half} (a : Tallied s n k t) (ne : k ≠ h) :
    Tallied s n k (appendNotice h t) := a.of_same (appendNotice_half h k t ne).1 (appendNotice_half h k t ne).2

/-- A record written is counted at both halves (R87). -/
theorem writeRecord_tallied {s t : State} {n : Nat} (stamp : Stamp) (test : Bool) (body : Body) (time : t.time = s.time)
    (a : ∀ h, Tallied s n h t) (h : Half) : Tallied s (n + 1) h (writeRecord stamp test body t) := by
  have stored : ∀ (st : Store) (k : Half), Tallied s n k { t with store := st } := fun _ k => (a k).of_same rfl rfl
  unfold writeRecord
  cases h with
  | control => exact Tallied.appendNotice_other (h := .archive) ((stored _ .control).appendNotice_own time) (by decide)
  | archive =>
    refine Tallied.appendNotice_own ?_ ((appendNotice_onlyReports .control _).time.trans time)
    exact Tallied.appendNotice_other (h := .control) (stored _ .archive) (by decide)

/-! ## What a departure at the Alarm List changes -/

/-- t differs from s only in the Alarm List, the summaries handed and ALARM NEW. -/
structure OnlyAlarms (s t : State) : Prop where
  store : t.store = s.store
  channels : t.channels = s.channels
  flags : t.irq.channel = s.irq.channel
  groups : t.groups = s.groups
  rules : t.rules = s.rules
  exhausted : t.exhausted = s.exhausted
  outputs : t.outputs.lines = s.outputs.lines
  causes : ∀ c, c ≠ .alarmNew → t.causeSet c = s.causeSet c

theorem OnlyAlarms.refl (s : State) : OnlyAlarms s s := ⟨rfl, rfl, rfl, rfl, rfl, rfl, rfl, fun _ _ => rfl⟩

/-- Distinct system causes have distinct places. -/
theorem SystemCause.idx_ne {c d : SystemCause} (h : d ≠ c) : d.idx ≠ c.idx := by
  revert h
  cases c <;> cases d <;> decide

theorem createEntry_onlyAlarms (ev : AlarmEvent) (chatter : Bool) (s : State) : OnlyAlarms s (createEntry ev chatter s) := by
  exact ⟨rfl, rfl, rfl, rfl, rfl, rfl, rfl, fun c ne => get_put_other _ _ _ _ (SystemCause.idx_ne ne)⟩

/-- A line's departure where every entry is in ALERT: a new entry with ALARM NEW, or nothing where the line has one (R132, R133). -/
theorem alarmDeparture_of_alert {ev : AlarmEvent} {s : State} (alert : ∀ e ∈ s.alarms.entries, e.phase = .alert) :
    (alarmDeparture ev s = createEntry ev false s) ∨
    (alarmDeparture ev s = s ∧ ∃ e ∈ s.alarms.entries, e.line = ev.line) := by
  unfold alarmDeparture
  cases found : s.alarmOf ev.line with
  | none => exact .inl rfl
  | some e =>
    have inside := List.mem_of_find?_eq_some found
    have line : e.line = ev.line := by simpa using List.find?_some found
    refine .inr ⟨?_, e, inside, line⟩
    dsimp only
    rw [alert e inside]

theorem alarmDeparture_onlyAlarms {ev : AlarmEvent} {s : State} (alert : ∀ e ∈ s.alarms.entries, e.phase = .alert) :
    OnlyAlarms s (alarmDeparture ev s) := by
  rcases alarmDeparture_of_alert alert with new | ⟨same, -⟩
  · rw [new]; exact createEntry_onlyAlarms ev false s
  · rw [same]; exact OnlyAlarms.refl s

/-- A created entry stands at the end of the list (R133). -/
theorem createEntry_entries (ev : AlarmEvent) (chatter : Bool) (s : State) : ∃ e : AlarmEntry,
    (createEntry ev chatter s).alarms.entries = s.alarms.entries ++ [e] ∧ e.line = ev.line ∧ e.phase = .alert ∧
    e.first = ev.stamp := ⟨_, rfl, rfl, rfl, rfl⟩

theorem createEntry_cause (ev : AlarmEvent) (chatter : Bool) (s : State) : (createEntry ev chatter s).causeSet .alarmNew = true :=
  raise_sets .alarmNew _

/-! ## The Alarm List since RESTART -/

/-- Whether a line has an alarm entry once it has settled at RESTART (R43, R192). -/
def State.alarmsAtRestart (s : State) (l : LineId) : Prop :=
  (s.lineTable.get l).ackMode ≠ .off ∧ (s.lines.get l).physical ≠ (s.lineTable.get l).normal

/-- The entries of t are new ones of those lines done that have one, and ALARM NEW stands where there is one. -/
structure NewAlarms (s : State) (done : List LineId) (t : State) : Prop where
  lines : ∀ l, (∃ e ∈ t.alarms.entries, e.line = l) ↔ l ∈ done ∧ s.alarmsAtRestart l
  new : ∀ e ∈ t.alarms.entries, e.phase = .alert ∧ e.first = s.now ∧ t.causeSet .alarmNew = true

theorem NewAlarms.of_same {s t u : State} {done : List LineId} (a : NewAlarms s done t) (alarms : u.alarms = t.alarms)
    (causes : u.irq.system = t.irq.system) : NewAlarms s done u := by
  refine ⟨fun l => by rw [alarms]; exact a.lines l, fun e inside => ?_⟩
  rw [alarms] at inside
  obtain ⟨alert, first, cause⟩ := a.new e inside
  exact ⟨alert, first, by rw [State.causeSet, causes]; exact cause⟩

/-- A line done without an entry. -/
theorem NewAlarms.quiet {s t : State} {done : List LineId} {l : LineId} (a : NewAlarms s done t) (none_ : ¬ s.alarmsAtRestart l) :
    NewAlarms s (done ++ [l]) t := by
  refine ⟨fun k => (a.lines k).trans ?_, a.new⟩
  rw [List.mem_append, List.mem_singleton]
  constructor
  · rintro ⟨inside, has⟩
    exact ⟨.inl inside, has⟩
  · rintro ⟨inside | rfl, has⟩
    · exact ⟨inside, has⟩
    · exact absurd has none_

/-- A line done with its departure handed. -/
theorem NewAlarms.departed {s t : State} {done : List LineId} {ev : AlarmEvent} (a : NewAlarms s done t)
    (has : s.alarmsAtRestart ev.line) (stamp : ev.stamp = s.now) : NewAlarms s (done ++ [ev.line]) (alarmDeparture ev t) := by
  have member : ∀ k, k ∈ done ++ [ev.line] ∧ s.alarmsAtRestart k ↔ (k ∈ done ∧ s.alarmsAtRestart k) ∨ k = ev.line := by
    intro k
    rw [List.mem_append, List.mem_singleton]
    constructor
    · rintro ⟨inside | rfl, also⟩
      · exact .inl ⟨inside, also⟩
      · exact .inr rfl
    · rintro (⟨inside, also⟩ | rfl)
      · exact ⟨.inl inside, also⟩
      · exact ⟨.inr rfl, has⟩
  rcases alarmDeparture_of_alert (ev := ev) fun e inside => (a.new e inside).1 with new | ⟨same, e, inside, line⟩
  · obtain ⟨e, entries, line, alert, first⟩ := createEntry_entries ev false t
    rw [new]
    refine ⟨fun k => ?_, fun x inside => ?_⟩
    · rw [member, ← a.lines k, entries]
      constructor
      · rintro ⟨x, inside, rfl⟩
        rcases List.mem_append.mp inside with old | added
        · exact .inl ⟨x, old, rfl⟩
        · rw [List.mem_singleton.mp added]; exact .inr line
      · rintro (⟨x, old, rfl⟩ | rfl)
        · exact ⟨x, List.mem_append_left _ old, rfl⟩
        · exact ⟨e, List.mem_append_right _ (List.mem_singleton_self e), line⟩
    · refine ⟨?_, ?_, createEntry_cause ev false t⟩ <;> rw [entries] at inside <;>
        rcases List.mem_append.mp inside with old | added
      · exact (a.new x old).1
      · rw [List.mem_singleton.mp added]; exact alert
      · exact (a.new x old).2.1
      · rw [List.mem_singleton.mp added]; exact first.trans stamp
  · rw [same]
    refine ⟨fun k => ?_, a.new⟩
    rw [member, ← a.lines k]
    constructor
    · exact .inl
    · rintro (old | rfl)
      · exact old
      · exact ⟨e, inside, line⟩

/-! ## The store since RESTART -/

/-- The records of t: RESTART's, then the ARMED record of each line done, each with its stamp and the line's level (R192). -/
structure BegunStore (s : State) (done : List LineId) (t : State) : Prop where
  records : ∃ more, t.store.records = ⟨s.store.next, s.now, false, .restart .command⟩ :: more ∧
    more.map (fun r => (r.stamp, r.test, r.body)) = done.map fun l => (s.now, false, .armed l (s.lines.get l).physical)
  length : t.store.records.length = done.length + 1
  words : wordsOf t.store.records = 6 * (done.length + 1)
  whole : t.store.loss = none

/-- As many lines as there are leave room for one more record. -/
theorem BegunStore.room {s t : State} {done : List LineId} (a : BegunStore s done t) (few : done.length < 32) :
    11 ≤ t.store.free := by
  have words := a.words
  unfold Store.free
  omega

theorem BegunStore.of_same {s t u : State} {done : List LineId} (a : BegunStore s done t) (store : u.store = t.store) :
    BegunStore s done u :=
  ⟨by rw [store]; exact a.records, by rw [store]; exact a.length, by rw [store]; exact a.words, by rw [store]; exact a.whole⟩

/-- One more line's ARMED record. -/
theorem BegunStore.armed {s t : State} {done : List LineId} (a : BegunStore s done t) (l : LineId) :
    BegunStore s (done ++ [l]) (writeRecord s.now false (.armed l (s.lines.get l).physical) t) := by
  obtain ⟨more, records, bodies⟩ := a.records
  have added := writeRecord_store s.now false (.armed l (s.lines.get l).physical) t
  have one : Record.len ⟨t.store.next, s.now, false, .armed l (s.lines.get l).physical⟩ = 6 := rfl
  refine ⟨⟨more ++ [⟨t.store.next, s.now, false, .armed l (s.lines.get l).physical⟩], ?_, ?_⟩, ?_, ?_, ?_⟩
  · rw [added]
    exact congrArg (· ++ [_]) records
  · rw [List.map_append, bodies, List.map_append]
    rfl
  · rw [added]
    simp [a.length]
  · rw [added]
    simp only [wordsOf_append, wordsOf_cons, wordsOf_nil, List.length_append, List.length_singleton, a.words, one]
    omega
  · rw [added]
    exact a.whole

/-! ## All that holds while the lines settle -/

/-- What holds once these lines have left SETTLING. -/
structure Begun (s : State) (done : List LineId) (t : State) : Prop where
  events : OnlyEvents (restartBlocks s) t
  levels : ∀ l, s.settlesAtOnce l = true →
    (t.lines.get l).effective = (s.lines.get l).physical ∧ (t.lines.get l).injected = none
  store : BegunStore s done t
  tally : ∀ h, Tallied s (done.length + 1) h t
  alarms : NewAlarms s done t
  groups : t.groups = (restartBlocks s).groups
  rules : t.rules = (restartBlocks s).rules
  exhausted : t.exhausted = (restartBlocks s).exhausted
  outputs : t.outputs.lines = (restartBlocks s).outputs.lines
  causes : ∀ c, c ≠ .alarmNew → t.causeSet c = false

theorem restartBlocks_time (s : State) : (restartBlocks s).time = s.time := by rw [restartBlocks_eq]

theorem restartBlocks_now (s : State) : (restartBlocks s).now = s.now := by rw [State.now, restartBlocks_time, State.now]

/-- Every channel flag is clear after steps 1 to 3 (R180). -/
theorem restartBlocks_channelCauseSet (s : State) (h : Half) (c : ChannelCause) :
    (restartBlocks s).channelCauseSet h c = false := by
  rw [State.channelCauseSet, restartBlocks_eq]
  cases h <;> exact get_replicate false _

/-- So is every system flag (R180). -/
theorem restartBlocks_causeSet (s : State) (c : SystemCause) : (restartBlocks s).causeSet c = false := by
  rw [State.causeSet, restartBlocks_eq]
  exact get_replicate false _

theorem restartBlocks_tallied (s : State) (h : Half) : Tallied s 0 h (restartBlocks s) := by
  refine ⟨?_, ?_, fun c _ => restartBlocks_channelCauseSet s h c⟩
  · have channel : (restartBlocks s).channels.get h = (s.channels.get h).restarted := by
      rw [restartBlocks_eq]
      cases h <;> rfl
    rw [channel]
    simp [Channel.restarted, Channel.tallied]
  · rw [restartBlocks_channelCauseSet, decide_eq_false (by omega), Bool.and_false]

/-- The RESTART record is written into the empty store (R83, R192). -/
theorem restartRecorded_eq (s : State) :
    restartRecorded s = writeRecord s.now false (.restart .command) (restartBlocks s) := by
  have whole : (restartBlocks s).store.loss = none := by rw [restartBlocks_eq]
  have free : (restartBlocks s).store.free = 4096 := by rw [restartBlocks_eq]; rfl
  have fits : (Body.restart .command).len + 5 ≤ (restartBlocks s).store.free := by rw [free]; decide
  unfold restartRecorded report
  rw [restartBlocks_now, append_fits whole fits]

/-- Steps 1 to 4. -/
theorem restartRecorded_begun (s : State) : Begun s [] (restartRecorded s) := by
  have reports := restartRecorded_reports s
  have store : (restartBlocks s).store = { s.store with records := [], tail := 0, loss := none } := by rw [restartBlocks_eq]
  refine ⟨reports.toEvents, fun l settles => ?_, ⟨⟨[], ?_, rfl⟩, ?_, ?_, ?_⟩, fun h => ?_, ⟨fun l => ?_, fun e inside => ?_⟩,
    reports.groups, reports.rules, reports.exhausted, by rw [reports.outputs], fun c _ => ?_⟩
  · have armed : (s.lines.get l).armed = true := (Bool.and_eq_true_iff.mp settles).1
    rw [restartRecorded_line, State.restartedLine, if_pos armed]
    exact ⟨rfl, rfl⟩
  · rw [restartRecorded_eq, writeRecord_store, store]
    rfl
  · rw [restartRecorded_eq, writeRecord_store, store]
    rfl
  · rw [restartRecorded_eq, writeRecord_store, store]
    rfl
  · rw [restartRecorded_eq, writeRecord_store, store]
  · rw [restartRecorded_eq]
    exact writeRecord_tallied _ _ _ (restartBlocks_time s) (restartBlocks_tallied s) h
  · rw [reports.alarms, restartBlocks_eq]
    exact ⟨fun ⟨_, inside, _⟩ => absurd inside List.not_mem_nil, fun ⟨inside, _⟩ => absurd inside List.not_mem_nil⟩
  · rw [reports.alarms, restartBlocks_eq] at inside
    exact absurd inside List.not_mem_nil
  · rw [State.causeSet, reports.system]
    exact restartBlocks_causeSet s c

/-- The state once a line's ARMED record is written, its INITIAL not yet at the Alarm List (R43). -/
def armedRecorded (s : State) (l : LineId) (t : State) : State :=
  writeRecord s.now false (.armed l (s.lines.get l).physical)
    (t.setLine l ((t.lines.get l).settled (s.lineTable.get l).normal))

/-- Step 5 at one line: its ARMED record, then its departure where it was found offnormal (R43, R192). -/
theorem Begun.qualifySettling_eq {s t : State} {done : List LineId} {l : LineId} (a : Begun s done t)
    (settles : s.settlesAtOnce l = true) (few : done.length < 32) :
    (¬ s.alarmsAtRestart l ∧ qualifySettling l t = armedRecorded s l t) ∨
    (s.alarmsAtRestart l ∧ ∃ ev : AlarmEvent, ev.line = l ∧ ev.stamp = s.now ∧
      qualifySettling l t = alarmDeparture ev (armedRecorded s l t)) := by
  obtain ⟨effective, uninjected⟩ := a.levels l settles
  have table : t.lineTable = s.lineTable := a.events.lineTable.trans (by rw [restartBlocks_eq])
  have now : t.now = s.now := by rw [State.now, a.events.time, restartBlocks_time, State.now]
  have fits := append_fits (s := t.setLine l ((t.lines.get l).settled (s.lineTable.get l).normal)) (stamp := s.now)
    (test := false) (body := .armed l (s.lines.get l).physical) a.store.whole (a.store.room few)
  obtain ⟨quiet, alarmed⟩ := classifyInitial_parts (e := s.lineTable.get l) (by rw [setLine_lineTable, table]) fits.symm
  rw [Machine.qualifySettling_eq, effective, uninjected, table, now]
  by_cases has : s.alarmsAtRestart l
  · exact .inr ⟨has, _, rfl, rfl, alarmed has.1 has.2⟩
  · refine .inl ⟨has, quiet ?_⟩
    by_cases off : (s.lineTable.get l).ackMode = .off
    · exact .inl off
    · exact .inr (by_contra fun away => has ⟨off, away⟩)

/-- One more line settles. -/
theorem Begun.settle {s t : State} {done : List LineId} {l : LineId} (a : Begun s done t) (settles : s.settlesAtOnce l = true)
    (few : done.length < 32) : Begun s (done ++ [l]) (qualifySettling l t) := by
  obtain ⟨r, rIs⟩ : ∃ r, r = armedRecorded s l t := ⟨_, rfl⟩
  have handled := qualifySettling_handled l t
  have reports : OnlyReports (t.setLine l ((t.lines.get l).settled (s.lineTable.get l).normal)) r := by
    rw [rIs]; exact writeRecord_onlyReports _ _ _ _
  have store : BegunStore s (done ++ [l]) r := by
    rw [rIs]
    exact BegunStore.armed (t := t.setLine l ((t.lines.get l).settled (s.lineTable.get l).normal)) (a.store.of_same rfl) l
  have alarms : NewAlarms s done r := a.alarms.of_same reports.alarms reports.system
  have tally : ∀ h, Tallied s (done.length + 1 + 1) h r := by
    rw [rIs]
    exact writeRecord_tallied _ _ _ (a.events.time.trans (restartBlocks_time s)) fun h => (a.tally h).of_same rfl rfl
  have after : OnlyAlarms r (qualifySettling l t) ∧ NewAlarms s (done ++ [l]) (qualifySettling l t) := by
    rcases a.qualifySettling_eq settles few with ⟨none_, is⟩ | ⟨has, ev, line, stamp, is⟩
    · rw [is, ← rIs]
      exact ⟨OnlyAlarms.refl r, alarms.quiet none_⟩
    · rw [is, ← rIs]
      subst line
      exact ⟨alarmDeparture_onlyAlarms fun e inside => (alarms.new e inside).1, alarms.departed has stamp⟩
  obtain ⟨only, new⟩ := after
  refine ⟨a.events.trans handled.events, fun k ks => ?_, store.of_same only.store, fun h => ?_, new,
    only.groups.trans (reports.groups.trans a.groups), only.rules.trans (reports.rules.trans a.rules),
    only.exhausted.trans (reports.exhausted.trans a.exhausted),
    only.outputs.trans ((congrArg OutputUnit.lines reports.outputs).trans a.outputs), fun c ne => ?_⟩
  · by_cases same : k = l
    · rw [same, qualifySettling_line]
      exact a.levels l settles
    · rw [handled.others k same]
      exact a.levels k ks
  · rw [List.length_append, List.length_singleton]
    exact (tally h).of_same (by rw [only.channels]) (by rw [only.flags])
  · rw [only.causes c ne, State.causeSet, reports.system]
    exact a.causes c ne

/-- All of them settle. -/
theorem Begun.settleLines {s : State} (ls : List LineId) {t : State} {done : List LineId} (a : Begun s done t)
    (settle : ∀ l ∈ ls, s.settlesAtOnce l = true) (few : done.length + ls.length ≤ 32) :
    Begun s (done ++ ls) (settleLines ls t) := by
  induction ls generalizing t done with
  | nil => rw [List.append_nil]; exact a
  | cons l ls ih =>
    rw [List.length_cons] at few
    have next := a.settle (settle l (List.mem_cons_self ..)) (by omega)
    have rest := ih next (fun k inside => settle k (List.mem_cons_of_mem l inside)) (by
      rw [List.length_append, List.length_singleton]; omega)
    rw [List.append_assoc] at rest
    exact rest

/-- The part after RESTART. -/
theorem restartPart_begun (s : State) : Begun s ((List.finRange 32).filter s.settlesAtOnce) (restartPart s) := by
  obtain ⟨ls, lsIs⟩ : ∃ ls, ls = (List.finRange 32).filter s.settlesAtOnce := ⟨_, rfl⟩
  have settle : ∀ l ∈ ls, s.settlesAtOnce l = true := fun l inside => by
    rw [lsIs, List.mem_filter] at inside
    exact inside.2
  have few : ls.length ≤ 32 := by
    have bound := List.length_filter_le s.settlesAtOnce (List.finRange 32)
    rwa [← lsIs, List.length_finRange] at bound
  have settled := (restartRecorded_begun s).settleLines ls settle (by rw [List.length_nil, Nat.zero_add]; exact few)
  rwa [List.nil_append, lsIs, ← restartPart_eq] at settled

/-- Where no line settles at once, RESTART ends with its record. -/
theorem restartPart_none {s : State} (none_ : ∀ l, s.settlesAtOnce l = false) : restartPart s = restartRecorded s := by
  have empty : (List.finRange 32).filter s.settlesAtOnce = [] := List.filter_eq_nil_iff.mpr fun l _ => by simp [none_ l]
  rw [restartPart_eq, empty]
  rfl

/-- RESTART from the control half gives DONE (R192). -/
theorem exec_restart {s : State} (running : s.inReset = false) :
    exec (.restart .control) s = .next ((restartPart s).setSlot .control (s.slots.control.answered 0x1F 0x1F01)) :=
  command_next (h := .control) (act := fun _ s => controlOnly .control s (.done, restartPart s)) running rfl (by decide)

/-- Settles O60: the restarted blocks, what the events of step 5 leave of them, and the lines. -/
theorem restartReturnsToAKnownBeginning : Obligations.RestartReturnsToAKnownBeginning := by
  intro s atOnce running atOnceIs
  have same : atOnce = s.settlesAtOnce := by
    funext l
    rw [Bool.eq_iff_iff, atOnceIs l, State.settlesAtOnce, Bool.and_eq_true, armed_iff, decide_eq_true_iff]
    rfl
  subst same
  have begun := restartPart_begun s
  have kept := begun.events
  have blocks := restartBlocks_eq s
  refine ⟨restartPart s, exec_restart running, ?_, ?_, ?_, ?_, ?_, ?_, ?_, ?_, ?_, ?_, ?_, ?_, fun h => ?_, fun h c cIs => ?_,
    begun.store.records, begun.store.whole, ?_, begun.causes, ?_, ?_, ?_, fun l off => ?_, fun l on later => ?_, fun l now => ?_,
    fun l => ?_, begun.alarms.new, fun none_ => ?_⟩
  · rw [kept.lineTable, blocks]
  · rw [kept.profiles, blocks]
  · rw [kept.time, blocks]
  · rw [kept.slots, blocks]
  · rw [kept.ports, blocks]
  · rw [kept.tableStatus, blocks]
  · rw [kept.escalation, blocks]
  · rw [kept.ackRecording, blocks]
  · rw [kept.data, blocks]
  · rw [kept.flash, blocks]
  · rw [kept.policy, blocks]
  · rw [kept.routes, blocks]
    rfl
  · rw [kept.enables, blocks]
    cases h <;> rfl
  · have tally := begun.tally h
    have length := begun.store.length
    subst cIs
    refine ⟨?_, ?_, tally.others _ (by decide), tally.others _ (by decide), tally.others _ (by decide)⟩
    · rw [tally.channel, length]
      simp [Channel.tallied]
    · rw [tally.ready, length]
  · rw [begun.exhausted, blocks]
  · rw [begun.groups, blocks]
  · rw [begun.rules, blocks]
  · rw [begun.outputs, blocks]
    rfl
  · have unarmed := (armed_false_iff _).mpr off
    rw [restartPart_line, State.settlesAtOnce, State.restartedLine, unarmed, Bool.false_and]
    rfl
  · rw [restartPart_line, later, State.restartedLine, (armed_iff _).mpr on]
    rfl
  · have armed : (s.lines.get l).armed = true := (Bool.and_eq_true_iff.mp now).1
    rw [restartPart_line, now, State.restartedLine, armed]
    rfl
  · rw [begun.alarms.lines l, List.mem_filter]
    exact ⟨fun ⟨⟨_, now⟩, has⟩ => ⟨now, has⟩, fun ⟨now, has⟩ => ⟨⟨List.mem_finRange l, now⟩, has⟩⟩
  · have reports := restartRecorded_reports s
    rw [restartPart_none none_]
    refine ⟨?_, ?_, ?_, fun c => ?_⟩
    · rw [restartRecorded_eq, writeRecord_store, blocks]
      rfl
    · rw [restartRecorded_eq, writeRecord_store, blocks]
    · rw [reports.alarms, blocks]
    · rw [State.causeSet, reports.system]
      exact restartBlocks_causeSet s c

end Sys2Proof.Machine

/-! PROOFS. TimeChanges: what pulses, steps, SET TIME and TIME CONTROL make of the Time Base (Chapter 2). -/
namespace Sys2Proof.Machine

/-! ## The discontinuity notice and the records leave the Time Base -/

theorem discontinuityNotice_time (s : State) : (discontinuityNotice s).time = s.time :=
  (discontinuityNotice_handled s).events.time

theorem report_time (stamp : Stamp) (test : Bool) (body : Body) (s : State) : (report stamp test body s).time = s.time :=
  (report_onlyReports stamp test body s).time

/-! ## Corrections and steps (R28 to R30) -/

/-- A correction touches the counter and the hold alone (R29). -/
theorem correctCounter_time (offset : Int) (s : State) : (correctCounter offset s).time = { s.time with
    counter := if 0 ≤ offset then moveBy s.time.counter offset else s.time.counter
    hold := if 0 ≤ offset then s.time.hold else toWord offset.natAbs } := by
  unfold correctCounter
  split <;> rfl

/-- A step sets the counter, discards the hold and gives the quality (R30). -/
theorem stepCounter_time (q : Quality) (offset : Int) (s : State) : (stepCounter q offset s).time = { s.time with
    counter := moveBy s.time.counter offset
    hold := 0
    quality := q } := by
  unfold stepCounter
  dsimp only
  rw [discontinuityNotice_time, changeQuality_time, report_time]

theorem alignCounter_within {beyond : Quality} {s : State}
    (within_ : (pulseOffset s.time.counter).natAbs ≤ s.time.stepLimit.toNat) :
    alignCounter beyond s = changeQuality .locked (correctCounter (pulseOffset s.time.counter) s) := if_pos within_

theorem alignCounter_beyond {beyond : Quality} {s : State}
    (outside : s.time.stepLimit.toNat < (pulseOffset s.time.counter).natAbs) :
    alignCounter beyond s = stepCounter beyond (pulseOffset s.time.counter) s := if_neg (Nat.not_le.mpr outside)

/-- However a pulse aligns the counter, all else of the Time Base stands. -/
theorem alignCounter_time (beyond : Quality) (s : State) : ∃ counter hold q, (q = .locked ∨ q = beyond) ∧
    (alignCounter beyond s).time = { s.time with counter := counter, hold := hold, quality := q } := by
  by_cases within_ : (pulseOffset s.time.counter).natAbs ≤ s.time.stepLimit.toNat
  · rw [alignCounter_within within_, changeQuality_time, correctCounter_time]
    exact ⟨_, _, .locked, .inl rfl, rfl⟩
  · rw [alignCounter_beyond (Nat.not_le.mp within_), stepCounter_time]
    exact ⟨_, _, beyond, .inr rfl, rfl⟩

/-! ## A pulse handled (R27, R31) -/

/-- The hold remaining is discarded (R29). -/
def State.unheld (s : State) : State := { s with time := { s.time with hold := 0 } }

/-- A pulse handled becomes the reference and restarts the supervision timer (R27, R31). -/
def State.referenced (s : State) : State := { s with time := { s.time with
  lastPulse := some s.time.elapsed
  supervision := some (s.time.elapsed + (1000000 + s.time.tolerance.toNat)) } }

/-- The quality a step ends in: LOCKED at the completion of acquisition, else ACQUIRING (R30). -/
def Quality.afterStep (q : Quality) : Quality := if q = .acquiring then .locked else .acquiring

theorem Quality.afterStep_cases (q : Quality) : q.afterStep = .acquiring ∨ q.afterStep = .locked := by
  cases q <;> decide

/-- Whether a pulse is aligned to: always in LOCKED and HOLDOVER, in ACQUIRING when its interval is regular (R28). -/
def TimeBase.aligns (t : TimeBase) : Prop :=
  t.quality = .locked ∨ t.quality = .holdover ∨ (t.quality = .acquiring ∧ t.regular = true)

theorem takePulse_aligns {s : State} (h : s.time.aligns) :
    takePulse s = (alignCounter s.time.quality.afterStep s.unheld).referenced := by
  unfold takePulse
  obtain locked | holdover | ⟨acquiring, regular⟩ := h
  · rw [locked]; rfl
  · rw [holdover]; rfl
  · rw [acquiring, regular]; rfl

/-- In ACQUIRING an irregular pulse corrects nothing (R28). -/
theorem takePulse_irregular {s : State} (acquiring : s.time.quality = .acquiring) (irregular : s.time.regular = false) :
    takePulse s = s.unheld.referenced := by
  unfold takePulse
  rw [acquiring, irregular]
  rfl

/-- A pulse's interval is regular when it lies within 1 000 000 µs ± tolerance of the reference (R28). -/
theorem TimeBase.regular_iff (t : TimeBase) : t.regular = true ↔ ∃ ref, t.lastPulse = some ref ∧
    t.elapsed - ref ≤ 1000000 + t.tolerance.toNat ∧ 1000000 ≤ t.elapsed - ref + t.tolerance.toNat := by
  unfold TimeBase.regular
  cases t.lastPulse with
  | none => simp
  | some ref =>
    simp only [decide_eq_true_eq, Option.some.injEq, exists_eq_left']
    omega

/-- A pulse handled out of FREE leaves the quality ACQUIRING or LOCKED and the supervision timer running. -/
theorem takePulse_time {s : State} (notFree : s.time.quality ≠ .free) : ∃ counter hold q,
    (q = .acquiring ∨ q = .locked) ∧ (takePulse s).time = { s.time with
      counter := counter
      hold := hold
      quality := q
      lastPulse := some s.time.elapsed
      supervision := some (s.time.elapsed + (1000000 + s.time.tolerance.toNat)) } := by
  have cases_ : s.time.aligns ∨ (s.time.quality = .acquiring ∧ s.time.regular = false) := by
    cases quality : s.time.quality with
    | free => exact absurd quality notFree
    | acquiring =>
      cases regular : s.time.regular with
      | false => exact .inr ⟨rfl, rfl⟩
      | true => exact .inl (.inr (.inr ⟨quality, regular⟩))
    | locked => exact .inl (.inl quality)
    | holdover => exact .inl (.inr (.inl quality))
  obtain aligns | ⟨acquiring, irregular⟩ := cases_
  · obtain ⟨counter, hold, q, either, time⟩ := alignCounter_time s.time.quality.afterStep s.unheld
    rw [takePulse_aligns aligns]
    refine ⟨counter, hold, q, ?_, ?_⟩
    · obtain rfl | rfl := either
      · exact .inr rfl
      · exact s.time.quality.afterStep_cases
    · unfold State.referenced
      rw [time]
      rfl
  · rw [takePulse_irregular acquiring irregular]
    exact ⟨s.time.counter, 0, .acquiring, .inl rfl, by rw [← acquiring]; rfl⟩

/-! ## SET TIME (R32) and TIME CONTROL (R26) -/

/-- The quality SET TIME leaves: LOCKED and HOLDOVER go to ACQUIRING with sync enable On (R32). -/
def TimeBase.setQuality (t : TimeBase) : Quality :=
  if t.syncEnable ∧ (t.quality = .locked ∨ t.quality = .holdover) then .acquiring else t.quality

theorem setCounter_eq (v : Timestamp) (s : State) : setCounter v s = discontinuityNotice (changeQuality s.time.setQuality
    (report ⟨v, s.time.quality⟩ false (.time .set s.time.quality s.time.setQuality (v - s.time.counter))
      { s with time := { s.time with counter := v, hold := 0 } })) := rfl

theorem setCounter_time (v : Timestamp) (s : State) :
    (setCounter v s).time = { s.time with counter := v, hold := 0, quality := s.time.setQuality } := by
  rw [setCounter_eq, discontinuityNotice_time, changeQuality_time, report_time]

/-- Sync enable from Off to On (R26). -/
theorem enableSync_off {s : State} (off : s.time.syncEnable = false) : enableSync s =
    changeQuality .acquiring { s with time := { s.time with syncEnable := true, lastPulse := none } } := by
  simp [enableSync, off]

theorem enableSync_on {s : State} (on : s.time.syncEnable = true) : enableSync s = s := by simp [enableSync, on]

/-- Sync enable from On to Off (R26). -/
theorem disableSync_on {s : State} (on : s.time.syncEnable = true) : disableSync s = changeQuality .free
    { s with time := { s.time with syncEnable := false, lastPulse := none, supervision := none } } := by
  simp [disableSync, on]

theorem disableSync_off {s : State} (off : s.time.syncEnable = false) : disableSync s = s := by simp [disableSync, off]

/-- TIME CONTROL is read by its bit 0 (R26). -/
theorem writeTimeControl_on {v : Word} (on : v.getLsbD 0 = true) (s : State) : writeTimeControl v s = enableSync s := by
  rw [writeTimeControl, bit_eq_getLsbD, if_pos on]

theorem writeTimeControl_off {v : Word} (off : v.getLsbD 0 = false) (s : State) :
    writeTimeControl v s = disableSync s := by
  rw [writeTimeControl, bit_eq_getLsbD, if_neg (Bool.eq_false_iff.mp off)]

end Sys2Proof.Machine

/-! PROOFS. TimeLegal: every row keeps the Time Base legal (O29). -/
namespace Sys2Proof.Machine

/-- The Time Base is legal (Table 11, R26, R31). -/
def State.timeLegal (s : State) : Prop := s.time.legal

/-- What leaves the Time Base alone keeps it legal. -/
theorem State.timeLegal.of_time {s t : State} (h : s.timeLegal) (same : t.time = s.time) : t.timeLegal := by
  unfold State.timeLegal
  rw [same]
  exact h

/-! ## Operations that leave the Time Base alone -/

theorem clearNotice_time (h : Half) (cause : Bool) (s : State) : (clearNotice h cause s).time = s.time := by
  unfold clearNotice
  dsimp only
  split <;> rfl

theorem clearStore_time (s : State) : (clearStore s).time = s.time := by
  unfold clearStore discardRecords
  dsimp only
  rw [report_time, clearNotice_time, clearNotice_time]

theorem disableRule_time (r : RuleId) (s : State) : (disableRule r s).time = s.time :=
  (lapseOldest_handled .disabled r (s.rules.get r).contexts.length s).events.time

theorem acknowledged_time {s : State} {r : Bool × State} (a : Handled s r.2) : (acknowledged r).2.time = s.time := by
  unfold acknowledged
  split
  · exact a.events.time
  · exact a.events.time

theorem readChannelData_time (h : Half) (s : State) : (readChannelData h s).time = s.time := by
  unfold readChannelData
  dsimp only
  split
  · rfl
  · split
    · rfl
    · exact (consume_onlyReports h s).time

theorem enableFromOldest_time (h : Half) (s : State) : (enableFromOldest h s).2.time = s.time := by
  unfold enableFromOldest
  dsimp only
  split
  · rfl
  · exact (readyRules_onlyReports h 0 _).time

theorem enableFromNext_time (h : Half) (s : State) : (enableFromNext h s).2.time = s.time := by
  unfold enableFromNext
  dsimp only
  split
  · rfl
  · exact (reclaim_onlyReports _).time

theorem disableChannel_time (h : Half) (s : State) : (disableChannel h s).2.time = s.time := by
  unfold disableChannel
  dsimp only
  split
  · exact (reclaim_onlyReports _).time
  · rfl

theorem skipRecord_time (h : Half) (s : State) : (skipRecord h s).2.time = s.time := by
  unfold skipRecord
  dsimp only
  split
  · rfl
  · split
    · rfl
    · exact (consume_onlyReports h s).time

theorem rereadRecord_time (h : Half) (s : State) : (rereadRecord h s).2.time = s.time := by
  unfold rereadRecord
  dsimp only
  split
  · rfl
  · split <;> rfl

theorem writeThreshold_time (h : Half) (v : Word) (s : State) : (writeThreshold h v s).time = s.time := by
  unfold writeThreshold
  dsimp only
  split
  · rfl
  · split <;> rfl

theorem readyCleared_time (h : Half) (s : State) : (readyCleared h s).time = s.time := by
  unfold readyCleared
  dsimp only
  split
  · rfl
  · split
    · rfl
    · split <;> rfl

theorem writeChannelCauses_time (h : Half) (v : Word) (s : State) : (writeChannelCauses h v s).time = s.time := by
  unfold writeChannelCauses
  dsimp only
  split
  · exact readyCleared_time h _
  · rfl

theorem writePortAddress_time (h : Half) (v : Word) (s : State) : (writePortAddress h v s).time = s.time := by
  unfold writePortAddress
  split <;> rfl

theorem acceptOr_time {α : Type} {s t : State} {o : Option α} {f : α → State} (taken : acceptOr o f = .accepted t)
    (same : ∀ x, (f x).time = s.time) : t.time = s.time := by
  cases o with
  | none => cases taken
  | some x => cases taken; exact same x

/-- The tables hold nothing of the Time Base (Table 42). -/
theorem writeTable_time {s t : State} {p : PortAddress} {w : Word} (taken : writeTable s p w = .accepted t) :
    t.time = s.time := by
  unfold writeTable at taken
  split at taken
  · unfold writeLineEntry at taken
    split at taken
    · cases taken
    · split at taken
      · cases taken
      · exact acceptOr_time taken fun _ => rfl
  · unfold writeProfile at taken
    split at taken
    · cases taken
    · exact acceptOr_time taken fun _ => rfl
  · unfold writeGroup at taken
    split at taken
    · cases taken
    · split at taken
      · cases taken
      · cases taken; rfl
  · unfold writeRule at taken
    split at taken
    · cases taken
    · split at taken
      · cases taken
      · exact acceptOr_time taken fun _ => rfl
  · unfold writeOutput at taken
    split at taken
    · cases taken
    · exact acceptOr_time taken fun _ => rfl
  · exact acceptOr_time taken fun _ => rfl
  · cases taken

theorem writeTableData_time (w : Word) (s : State) : (writeTableData w s).time = s.time := by
  unfold writeTableData
  rw [stepPort_time]
  cases judged : writeTable s s.ports.control w with
  | accepted t => exact writeTable_time judged
  | refused reason => rfl
  | ignored => rfl

theorem restartPart_time (s : State) : (restartPart s).time = s.time := by
  rw [restartPart_eq, (settleLines_events _ _).time, (restartRecorded_reports s).time, restartBlocks_time]

/-! ## Operations on the Time Base -/

/-- A Time Base with sync enable On is legal out of FREE (Table 11). -/
theorem TimeBase.legal_of_enabled {t : TimeBase} (on : t.syncEnable = true) (quality : t.quality ≠ .free)
    (tolerance : t.tolerance ≠ 0) (limit : t.stepLimit ≠ 0) (holdover : t.quality = .holdover → t.supervision = none) :
    t.legal :=
  ⟨by simp [on, quality], tolerance, limit, by simp [on], holdover⟩

/-- A legal Time Base with sync enable On is out of FREE, and one out of FREE has it On (Table 11). -/
theorem TimeBase.legal.enabled_iff {t : TimeBase} (h : t.legal) : t.syncEnable = true ↔ t.quality ≠ .free := by
  obtain ⟨agree, -⟩ := h
  rw [← not_iff_not, Bool.not_eq_true, agree, not_not]

theorem tick_timeLegal {s : State} (h : s.timeLegal) : (tick s).timeLegal := by
  show s.time.tick.legal
  unfold TimeBase.tick
  split <;> exact h

theorem takePulse_timeLegal {s : State} (on : s.time.syncEnable = true) (h : s.timeLegal) : (takePulse s).timeLegal := by
  have ⟨_, tolerance, limit, _, _⟩ := h
  obtain ⟨counter, hold, q, either, time⟩ := takePulse_time (h.enabled_iff.mp on)
  have neither : q ≠ .free ∧ q ≠ .holdover := by obtain rfl | rfl := either <;> decide
  unfold State.timeLegal
  rw [time]
  exact TimeBase.legal_of_enabled on neither.1 tolerance limit fun is => absurd is neither.2

/-- The end of supervision (R31). -/
theorem superviseEnds_timeLegal {s : State} (h : s.timeLegal) :
    (if s.time.quality = .locked then changeQuality .holdover { s with time := { s.time with supervision := none } }
      else { s with time := { s.time with supervision := none } }).timeLegal := by
  have ⟨agree, tolerance, limit, off, _⟩ := h
  split
  · next locked =>
    have on : s.time.syncEnable = true := h.enabled_iff.mpr (by rw [locked]; decide)
    unfold State.timeLegal
    rw [changeQuality_time]
    exact TimeBase.legal_of_enabled on (by simp) tolerance limit fun _ => rfl
  · exact ⟨agree, tolerance, limit, fun o => ⟨rfl, (off o).2⟩, fun _ => rfl⟩

theorem writeTimeControl_timeLegal (v : Word) {s : State} (h : s.timeLegal) : (writeTimeControl v s).timeLegal := by
  have ⟨_, tolerance, limit, stopped, _⟩ := h
  cases wanted : v.getLsbD 0 <;> cases enabled : s.time.syncEnable
  · rw [writeTimeControl_off wanted, disableSync_off enabled]
    exact h
  · rw [writeTimeControl_off wanted, disableSync_on enabled]
    unfold State.timeLegal
    rw [changeQuality_time]
    exact ⟨⟨fun _ => rfl, fun _ => rfl⟩, tolerance, limit, fun _ => ⟨rfl, rfl⟩, fun _ => rfl⟩
  · rw [writeTimeControl_on wanted, enableSync_off enabled]
    unfold State.timeLegal
    rw [changeQuality_time]
    exact TimeBase.legal_of_enabled rfl (by simp) tolerance limit fun _ => (stopped enabled).1
  · rw [writeTimeControl_on wanted, enableSync_on enabled]
    exact h

theorem writeTolerance_timeLegal (v : Word) {s : State} (h : s.timeLegal) : (writeTolerance v s).timeLegal := by
  have ⟨agree, _, limit, off, holdover⟩ := h
  unfold writeTolerance
  split
  · exact h
  · next above => exact ⟨agree, above, limit, off, holdover⟩

theorem writeStepLimit_timeLegal (v : Word) {s : State} (h : s.timeLegal) : (writeStepLimit v s).timeLegal := by
  have ⟨agree, tolerance, _, off, holdover⟩ := h
  unfold writeStepLimit
  split
  · exact h
  · next above => exact ⟨agree, tolerance, above, off, holdover⟩

/-- SET TIME leaves no quality that disagrees with sync enable (R32). -/
theorem setCounter_timeLegal (v : Timestamp) {s : State} (h : s.timeLegal) : (setCounter v s).timeLegal := by
  have ⟨_, tolerance, limit, _, holdover⟩ := h
  unfold State.timeLegal
  rw [setCounter_time, TimeBase.setQuality]
  split
  · next locks => exact TimeBase.legal_of_enabled locks.1 (by simp) tolerance limit (by simp)
  · exact h

/-- Every operation that a row asks of a block keeps the Time Base legal. -/
theorem rowsKeep_timeLegal : RowsKeep State.timeLegal where
  pending _ h := h
  freeIndex _ h := h
  lastRead _ h := h
  setSlot _ _ h := h
  tick _ h := tick_timeLegal h
  sampledInReset _ _ _ h := h
  sampled l _ _ h := h.of_time (observeLevel_handled l _).events.time
  qualifySettling l _ _ h := h.of_time (qualifySettling_handled l _).events.time
  qualifyDeparture l _ _ h := h.of_time (qualifyDeparture_handled l _).events.time
  qualifyReturn l _ _ h := h.of_time (qualifyReturn_handled l _).events.time
  closeWindow _ _ h := h
  releaseLine l _ _ h := h.of_time (releaseLine_handled l _).events.time
  takePulse _ on h := takePulse_timeLegal on h
  superviseEnds _ _ h := superviseEnds_timeLegal h
  holdAbsorbed _ h := h
  resolveGroup g _ _ h := h.of_time (resolveGroup_handled g false _).events.time
  lapse r k _ h := h.of_time (lapse_handled .window r k _).events.time
  escalate _ e _ _ _ h := h.of_time (escalate_handled e _).events.time
  lengthExpires _ _ _ h := h
  gapExpires _ _ _ h := h
  holdoffExpires _ _ _ h := h
  flashPhase _ h := h
  readChannelData half _ h := h.of_time (readChannelData_time half _)
  statusTaken _ _ h := h
  latchTime _ _ h := h
  stepPort _ _ h := h
  clearTableStatus _ h := h
  writeTableData w _ h := h.of_time (writeTableData_time w _)
  writePortAddress half w _ h := h.of_time (writePortAddress_time half w _)
  writeStoreControl _ _ h := h
  writeTimeControl v _ h := writeTimeControl_timeLegal v h
  writeTolerance v _ h := writeTolerance_timeLegal v h
  writeStepLimit v _ h := writeStepLimit_timeLegal v h
  writeSetHigh _ _ h := h
  writeAckRecording _ _ h := h
  writeOutputData _ _ h := h
  writeThreshold half v _ h := h.of_time (writeThreshold_time half v _)
  writeHoldoff _ _ _ h := h
  writeChannelCauses half v _ h := h.of_time (writeChannelCauses_time half v _)
  writeSystemCauses _ _ _ h := h
  writeSystemRoutes _ _ h := h
  armLine l _ _ h := h.of_time (armDisarmed_handled l _).events.time
  disarmLine l _ _ h := h.of_time (disarmArmed_handled l _).events.time
  injectLevel l v _ _ h := h.of_time (injectLevel_handled l v _).events.time
  clearGroup g _ _ h := h.of_time (clearGroup_handled g _).events.time
  ruleEnable _ _ h := by
    unfold ruleEnable
    split <;> exact h
  disableRule r _ h := h.of_time (disableRule_time r _)
  setCounter v _ h := setCounter_timeLegal v h
  takeSnapshot _ h := h.of_time (report_time _ _ _ _)
  clearStore _ h := h.of_time (clearStore_time _)
  requestPulse q _ h := h.of_time (requestPulse_handled q _).events.time
  ackLine tag half l _ h := h.of_time (acknowledged_time (ackEntry_handled tag half l _))
  ackAll tag half _ h := h.of_time (acknowledged_time (ackEntries_handled tag half _ (false, _)))
  silenceEntries half _ h := h.of_time (silenceEntries_handled half _).events.time
  mark _ _ _ h := h.of_time (report_time _ _ _ _)
  restartPart _ h := h.of_time (restartPart_time _)
  enableFromOldest half _ h := h.of_time (enableFromOldest_time half _)
  enableFromNext half _ h := h.of_time (enableFromNext_time half _)
  disableChannel half _ h := h.of_time (disableChannel_time half _)
  skipRecord half _ h := h.of_time (skipRecord_time half _)
  rereadRecord half _ h := h.of_time (rereadRecord_time half _)
  holdInReset _ := TimeBase.reset_legal
  releaseReset {s} _ := State.timeLegal.of_time (s := { Machine.holdInReset s with inReset := false })
    TimeBase.reset_legal (report_time _ _ _ _)

/-- Settles O29: every operation keeps the Time Base legal, so every step does. -/
theorem timeBaseLegalAfterEveryStep : Obligations.TimeBaseLegalAfterEveryStep :=
  fun _ _ legal ran => rowsKeep_timeLegal.step legal ran

end Sys2Proof.Machine

/-! PROOFS. PassingOfTime: what a step does with nothing waiting (O3). -/
namespace Sys2Proof.Machine

/-! ## A step with an empty queue (log 2) -/

/-- A command chosen is one of those it is chosen from. -/
theorem chosenOf_mem (first : Instr) (rest : List Instr) (index : Nat) : chosenOf first rest index ∈ first :: rest := by
  unfold chosenOf
  have inside : Config.dueChoice index % (rest.length + 1) < (first :: rest).length := Nat.mod_lt _ (Nat.succ_pos _)
  rw [List.getD_eq_getElem _ _ inside]
  exact List.getElem_mem inside

section
variable {s : State}

theorem step_idle (empty : s.pending = []) : step s = idle s := by simp [step, empty]

/-- While RESETn is asserted or CLK is stopped nothing passes (R183, R203). -/
theorem idle_stopped (stopped : s.inReset = true ∨ s.clockRunning = false) : idle s = .next s := by
  unfold idle
  rw [if_pos (by simpa using stopped)]

section
variable (running : s.inReset = false) (clock : s.clockRunning = true)
include running clock

/-- With no timer due one microsecond passes. -/
theorem idle_quiet (none_ : s.dueCommands = []) : idle s = .next (tick s) := by
  simp [idle, running, clock, none_]

/-- The only timer due expires. -/
theorem idle_one {c : Instr} (one : s.dueCommands = [c]) : idle s = exec c s := by
  simp [idle, running, clock, one]

/-- Of several timers due one expires, whichever the free value chooses (log 4). -/
theorem idle_several (several : 2 ≤ s.dueCommands.length) :
    ∃ c ∈ s.dueCommands, idle s = exec c { s with freeIndex := s.freeIndex + 1 } := by
  match due : s.dueCommands, several with
  | c :: d :: rest, _ =>
    refine ⟨chosenOf c (d :: rest) s.freeIndex, chosenOf_mem _ _ _, ?_⟩
    simp [idle, running, clock, due]

end

/-- A microsecond with no hold advances the counter (R25). -/
theorem TimeBase.tick_free {t : TimeBase} (h : t.hold = 0) :
    t.tick = { t with elapsed := t.elapsed + 1, counter := satAdvance t.counter 1 } := if_pos h

/-- A microsecond of a hold reduces it (R29). -/
theorem TimeBase.tick_held {t : TimeBase} (h : t.hold ≠ 0) :
    t.tick = { t with elapsed := t.elapsed + 1, hold := t.hold - 1 } := if_neg h

end

/-! ## The expiries that are due (R35) -/

section
variable (s : State) (c : Instr)

/-- A timer runs and its moment has come. -/
def State.timerCame (s : State) (timer : Option Nat) : Prop := ∃ m, timer = some m ∧ m ≤ s.time.elapsed

theorem mem_dueOfLine (l : LineId) : c ∈ s.dueOfLine l ↔
    (c = .qualificationExpiry l ∧ s.timerCame (s.lines.get l).qualTimer) ∨
    (c = .chatterWindowExpiry l ∧ ∃ w, (s.lines.get l).window = some w ∧ w.closesAt ≤ s.time.elapsed) ∨
    (c = .releaseExpiry l ∧ s.timerCame (s.lines.get l).releaseTimer) := by
  simp only [State.dueOfLine, List.mem_append, mem_dueOf, State.timerCame, Option.map_eq_some_iff, or_assoc]
  simp

theorem mem_dueOfRule (r : RuleId) : c ∈ s.dueOfRule r ↔
    ∃ i x, c = .lapseTimerExpiry r i ∧ (s.rules.get r).contexts[i]? = some x ∧ x.lapsesAt ≤ s.time.elapsed := by
  simp only [State.dueOfRule, List.mem_flatMap, mem_dueOf, Prod.exists, List.mem_zipIdx_iff_getElem?]
  constructor
  · rintro ⟨x, i, at_, is, _, ⟨rfl⟩, came⟩
    exact ⟨i, x, is, at_, came⟩
  · rintro ⟨i, x, is, at_, came⟩
    exact ⟨x, i, at_, is, _, rfl, came⟩

theorem mem_dueOfOutput (q : OutputId) : c ∈ s.dueOfOutput q ↔
    (c = .lengthTimerExpiry q ∧ (s.outputs.lines.get q).phase = .pulsing ∧
      s.timerCame (s.outputs.lines.get q).timer) ∨
    (c = .gapTimerExpiry q ∧ (s.outputs.lines.get q).phase = .gap ∧ s.timerCame (s.outputs.lines.get q).timer) := by
  unfold State.dueOfOutput
  cases phase : (s.outputs.lines.get q).phase <;> simp [mem_dueOf, State.timerCame, phase]

/-- The due expiries, block by block. -/
theorem mem_dueCommands : c ∈ s.dueCommands ↔
    (∃ l, (c = .qualificationExpiry l ∧ s.timerCame (s.lines.get l).qualTimer) ∨
      (c = .chatterWindowExpiry l ∧ ∃ w, (s.lines.get l).window = some w ∧ w.closesAt ≤ s.time.elapsed) ∨
      (c = .releaseExpiry l ∧ s.timerCame (s.lines.get l).releaseTimer)) ∨
    (c = .supervisionExpiry ∧ s.timerCame s.time.supervision) ∨
    (∃ g, c = .resolutionTimerExpiry g ∧ s.timerCame (s.groups.get g).timer) ∨
    (∃ r i x, c = .lapseTimerExpiry r i ∧ (s.rules.get r).contexts[i]? = some x ∧ x.lapsesAt ≤ s.time.elapsed) ∨
    (∃ e ∈ s.alarms.entries, c = .escalationTimerExpiry e.line ∧ s.timerCame e.timer) ∨
    (∃ q, (c = .lengthTimerExpiry q ∧ (s.outputs.lines.get q).phase = .pulsing ∧
        s.timerCame (s.outputs.lines.get q).timer) ∨
      (c = .gapTimerExpiry q ∧ (s.outputs.lines.get q).phase = .gap ∧ s.timerCame (s.outputs.lines.get q).timer)) ∨
    (∃ h, c = .holdoffTimerExpiry h ∧ s.timerCame (s.channels.get h).holdoffTimer) := by
  have halves : ∀ P : Half → Prop, (∃ h ∈ [Half.control, Half.archive], P h) ↔ ∃ h, P h := fun P =>
    ⟨fun ⟨h, _, p⟩ => ⟨h, p⟩, fun ⟨h, p⟩ => ⟨h, by cases h <;> simp, p⟩⟩
  simp only [State.dueCommands, List.mem_append, List.mem_flatMap, List.mem_finRange, true_and, halves, mem_dueOfLine,
    mem_dueOfRule, mem_dueOfOutput, mem_dueOf, or_assoc]
  rfl

end

/-- Settles O3: the step by how many timers are due, then the due expiries block by block. -/
theorem emptyQueueLetsTimePass : Obligations.EmptyQueueLetsTimePass := by
  refine ⟨fun s empty none_ => ?_, fun s empty running clock => ?_, fun s => ?_⟩
  · rw [step_idle empty]
    refine ⟨fun running clock free => ?_, fun running clock held => ?_, idle_stopped⟩
    · rw [idle_quiet running clock none_, tick, TimeBase.tick_free free]
    · rw [idle_quiet running clock none_, tick, TimeBase.tick_held held]
  · rw [step_idle empty]
    exact ⟨fun c one => idle_one running clock one, idle_several running clock⟩
  · simp only [mem_dueCommands]
    refine ⟨fun l => ?_, fun l => ?_, fun l => ?_, ?_, fun g => ?_, fun r i => ?_, fun l => ?_, fun q => ?_, fun q => ?_,
      fun h => ?_, fun c due => ?_⟩
    · simp [State.timerCame]
    · simp
    · simp [State.timerCame]
    · simp [State.timerCame]
    · simp [State.timerCame]
    · simp
    · simp [State.timerCame, eq_comm]
    · simp [State.timerCame]
    · simp [State.timerCame]
    · simp [State.timerCame]
    · obtain ⟨l, ⟨rfl, -⟩ | ⟨rfl, -⟩ | ⟨rfl, -⟩⟩ | ⟨rfl, -⟩ | ⟨g, rfl, -⟩ | ⟨r, i, x, rfl, -⟩ | ⟨e, -, rfl, -⟩ |
        ⟨q, ⟨rfl, -⟩ | ⟨rfl, -⟩⟩ | ⟨h, rfl, -⟩ := due
      all_goals simp

end Sys2Proof.Machine

/-! PROOFS. TimeAccess: the time words and their latches (O25), TIME CONTROL, the supervision timer and the end of a hold
(O27). -/
namespace Sys2Proof.Machine

/-! ## TIME HIGH and the latches (R36) -/

/-- Out of reset a read of the window returns its word (R182, R183). -/
theorem busRead_running {s : State} (running : s.inReset = false) (w : WordId) : s.busRead w = s.readWord w := by
  simp [State.busRead, running]

/-- The fields of TIME CONTROL as a half reads it (Table 39). -/
theorem State.timeControlWord_fields (s : State) (h : Half) :
    (s.timeControlWord h).getLsbD 0 = s.time.syncEnable ∧ (s.timeControlWord h).toNat / 2 % 8 = 0 ∧
    (s.timeControlWord h).toNat / 16 = (s.time.latches.get h).quality.code := by
  have enable := Bool.toNat_lt s.time.syncEnable
  have quality := Quality.code_lt (s.time.latches.get h).quality
  have spelled := toWord_toNat (n := s.time.syncEnable.toNat + 16 * (s.time.latches.get h).quality.code) (by omega)
  change (s.timeControlWord h).toNat = _ at spelled
  refine ⟨getLsbD_of_field ?_, ?_, ?_⟩ <;> omega

/-- What leaves the state as it is changes nothing, in reset or out of it. -/
theorem live_self (s : State) : live s s = s := by
  unfold live
  split <;> rfl

theorem exec_registerWrite {s t : State} {w : WordId} {v : Word} (written : writeWord w v s = t) :
    exec (.registerWrite w v) s = .next (live s t) := by
  rw [← written]
  rfl

/-- The time read words are not written (R36). -/
theorem writeWord_timeRead {w : WordId} (h : w ∈ ([11, 12, 13, 43, 44, 45] : List WordId)) (v : Word) (s : State) :
    writeWord w v s = s := by
  fin_cases h <;> rfl

/-- Settles O25: the strobe, the words as they read, and the writes that are ignored. -/
theorem timeHighReadLatches : Obligations.TimeHighReadLatches := by
  refine ⟨fun h s running => ?_, fun s running => ?_, fun w v s timeRead => ?_⟩
  · exact congrArg Host.Outcome.next (readStrobe_running _ _ running)
  · obtain ⟨-, -, control⟩ := s.timeControlWord_fields .control
    obtain ⟨-, -, archive⟩ := s.timeControlWord_fields .archive
    have controlCode := Quality.code_lt s.time.latches.control.quality
    have archiveCode := Quality.code_lt s.time.latches.archive.quality
    simp only [busRead_running running]
    refine ⟨rfl, rfl, ?_, rfl, rfl, ?_⟩
    · show (s.timeControlWord .control).toNat / 16 % 4 = _
      rw [control]
      exact Nat.mod_eq_of_lt controlCode
    · show (s.timeControlWord .archive).toNat / 16 % 4 = _
      rw [archive]
      exact Nat.mod_eq_of_lt archiveCode
  · rw [exec_registerWrite (writeWord_timeRead timeRead v s), live_self]

/-! ## A change of quality (R33) -/

/-- A change of quality: its record under the new quality, and its cause (R33). -/
theorem changeQuality_other {q : Quality} {s : State} (h : s.time.quality ≠ q) : changeQuality q s =
    raise .timeQuality (report ⟨s.time.counter, q⟩ false (.time .quality s.time.quality q 0)
      { s with time := { s.time with quality := q } }) := if_neg h

theorem exec_timeControlWrite {s : State} (running : s.inReset = false) (v : Word) :
    exec (.timeControlWrite v) s = .next (writeTimeControl v s) :=
  congrArg Host.Outcome.next (live_running _ running)

/-- A write that leaves sync enable as it is changes nothing (R26). -/
theorem writeTimeControl_same {v : Word} {s : State} (same : v.getLsbD 0 = s.time.syncEnable) :
    writeTimeControl v s = s := by
  cases enabled : s.time.syncEnable
  · rw [writeTimeControl_off (same.trans enabled), disableSync_off enabled]
  · rw [writeTimeControl_on (same.trans enabled), enableSync_on enabled]

/-- The supervision timer's expiry (R31). -/
theorem exec_supervisionExpiry {s : State} (running : s.inReset = false) (clock : s.clockRunning = true)
    (timer : s.time.supervision.isSome = true) : exec .supervisionExpiry s = .next
      (if s.time.quality = .locked then changeQuality .holdover { s with time := { s.time with supervision := none } }
        else { s with time := { s.time with supervision := none } }) := by
  refine (congrArg Host.Outcome.next (timed_running _ running clock)).trans ?_
  rw [if_pos timer]

/-- Settles O27: each write by what sync enable was, each expiry by the quality. -/
theorem timeControlSupervisionAndHold : Obligations.TimeControlSupervisionAndHold := by
  refine ⟨fun v s running => ⟨fun same => ?_, fun on off free => ?_, fun off on notFree => ?_⟩,
    fun s running clock => ⟨fun timer locked => ?_, fun timer unlocked => ?_, ?_⟩⟩
  · rw [exec_timeControlWrite running, writeTimeControl_same same]
  · rw [exec_timeControlWrite running, writeTimeControl_on on, enableSync_off off,
      changeQuality_other (by rw [free]; decide)]
    dsimp only
    rw [free]
  · rw [exec_timeControlWrite running, writeTimeControl_off off, disableSync_on on, changeQuality_other (by exact notFree)]
  · rw [exec_supervisionExpiry running clock timer, if_pos locked, changeQuality_other (by rw [locked]; decide)]
    dsimp only
    rw [locked]
  · rw [exec_supervisionExpiry running clock timer, if_neg unlocked]
  · exact congrArg Host.Outcome.next (timed_running _ running clock)

end Sys2Proof.Machine

/-! PROOFS. Notice: the discontinuity notice: every resolving group resolves and every open context lapses (R34, R55, R124),
and SET TIME, which sends it (O26). -/
namespace Sys2Proof.Machine

/-! ## The first-out of a group (R51) -/

/-- Candidate a is judged before b, or beside it on its own line: the earlier edge, of equal edges the lower line (R51). -/
def Candidate.before (a b : Candidate) : Prop :=
  a.stamp.time < b.stamp.time ∨ (a.stamp.time = b.stamp.time ∧ a.line ≤ b.line)

theorem Candidate.before_iff (a b : Candidate) : a.before b ↔ a.stamp.time.toNat < b.stamp.time.toNat ∨
    (a.stamp.time.toNat = b.stamp.time.toNat ∧ a.line.val ≤ b.line.val) := by
  rw [Candidate.before, BitVec.lt_def, ← BitVec.toNat_inj, Fin.le_def]

theorem Candidate.before_refl (a : Candidate) : a.before a := .inr ⟨rfl, Fin.le_refl _⟩

theorem Candidate.before_trans {a b c : Candidate} (h : a.before b) (k : b.before c) : a.before c := by
  rw [Candidate.before_iff] at *
  omega

/-- Of two candidates the one judged first is one of them, before both. -/
theorem earlier_spec (a b : Candidate) :
    (earlier a b = a ∨ earlier a b = b) ∧ (earlier a b).before a ∧ (earlier a b).before b := by
  unfold earlier
  split
  · next sooner =>
    refine ⟨.inr rfl, ?_, b.before_refl⟩
    rw [Candidate.before_iff]
    rw [BitVec.lt_def, ← BitVec.toNat_inj, Fin.lt_def] at sooner
    omega
  · next later =>
    refine ⟨.inl rfl, a.before_refl, ?_⟩
    rw [Candidate.before_iff]
    rw [BitVec.lt_def, ← BitVec.toNat_inj, Fin.lt_def] at later
    omega

theorem foldl_earlier_spec (cs : List Candidate) (a : Candidate) :
    cs.foldl earlier a ∈ a :: cs ∧ ∀ c ∈ a :: cs, (cs.foldl earlier a).before c := by
  induction cs generalizing a with
  | nil => simp [Candidate.before_refl]
  | cons b cs ih =>
    obtain ⟨one, first, second⟩ := earlier_spec a b
    obtain ⟨inside, least⟩ := ih (earlier a b)
    have leads := least _ List.mem_cons_self
    rw [List.foldl_cons]
    refine ⟨?_, fun c mem => ?_⟩
    · obtain is | rest := List.mem_cons.mp inside
      · rw [is]
        obtain is | is := one <;> simp [is]
      · simp [rest]
    · rw [List.mem_cons, List.mem_cons] at mem
      obtain rfl | rfl | rest := mem
      · exact Candidate.before_trans leads first
      · exact Candidate.before_trans leads second
      · exact least c (List.mem_cons_of_mem _ rest)

/-- The candidate judged first is one of the candidates, and before every one (R51). -/
theorem firstOutOf_spec {cs : List Candidate} (some_ : cs ≠ []) :
    ∃ f ∈ cs, firstOutOf cs = some f ∧ ∀ c ∈ cs, f.before c := by
  obtain ⟨a, rest, rfl⟩ := List.exists_cons_of_ne_nil some_
  obtain ⟨inside, least⟩ := foldl_earlier_spec rest a
  exact ⟨_, inside, rfl, least⟩

/-! ## A group resolves (R51, R55) -/

/-- A group after it has resolved on first-out f (R51). -/
def FirstOutGroup.resolvedOn (x : FirstOutGroup) (discontinuity : Bool) (f : Candidate) : FirstOutGroup :=
  let ties := coincidentWith f x.candidates
  { x with
    phase := .tripped
    candidates := []
    timer := none
    firstOut := some ⟨f.line, f.stamp, f.ref⟩
    coincident := maskOf fun l => ties.any fun c => c.line = l
    candidateCount := x.candidates.length
    consequents := toWord (x.candidates.length - 1 - ties.length)
    discontinuity := discontinuity }

/-- A group with candidates trips, its record is appended and the cause is set (R51, R52). -/
theorem resolveGroup_some {g : GroupId} {d : Bool} {s : State} {f : Candidate}
    (first : firstOutOf (s.groups.get g).candidates = some f) :
    ∃ u, OnlyReports (s.setGroup g ((s.groups.get g).resolvedOn d f)) u ∧ resolveGroup g d s = raise .groupTrip u := by
  unfold resolveGroup
  dsimp only
  rw [first]
  exact ⟨_, report_onlyReports _ _ _ _, rfl⟩

theorem resolveGroup_none {g : GroupId} {d : Bool} {s : State} (first : firstOutOf (s.groups.get g).candidates = none) :
    resolveGroup g d s = s := by
  unfold resolveGroup
  dsimp only
  rw [first]

/-- What the resolution of a group leaves alone: the other groups, the rules, the Alarm List and the outputs. -/
structure GroupResolved (g : GroupId) (s t : State) : Prop where
  others : ∀ k, k ≠ g → t.groups.get k = s.groups.get k
  rules : t.rules = s.rules
  exhausted : t.exhausted = s.exhausted
  alarms : t.alarms = s.alarms
  outputs : t.outputs = s.outputs

theorem resolveGroup_resolved (g : GroupId) (d : Bool) (s : State) : GroupResolved g s (resolveGroup g d s) := by
  cases first : firstOutOf (s.groups.get g).candidates with
  | none =>
    rw [resolveGroup_none first]
    exact ⟨fun _ _ => rfl, rfl, rfl, rfl, rfl⟩
  | some f =>
    obtain ⟨u, reports, is⟩ := resolveGroup_some (d := d) first
    rw [is]
    refine ⟨fun k ne => ?_, reports.rules, reports.exhausted, reports.alarms, reports.outputs⟩
    rw [raise_groups, reports.groups, setGroup_groups, get_put_other _ _ _ _ ne]

/-! ## A context lapses (R119, R124) -/

/-- A saturating 16-bit counter increased by n. -/
def satAdd (w : Word) (n : Nat) : Word := BitVec.ofNat 16 (min 65535 (w.toNat + n))

theorem satAdd_toNat (w : Word) (n : Nat) : (satAdd w n).toNat = min 65535 (w.toNat + n) := by
  rw [satAdd, BitVec.toNat_ofNat]
  omega

theorem satAdd_zero (w : Word) : satAdd w 0 = w := by
  apply BitVec.eq_of_toNat_eq
  have := w.isLt
  rw [satAdd_toNat]
  omega

theorem satAdd_satAdd (w : Word) (m n : Nat) : satAdd (satAdd w m) n = satAdd w (m + n) := by
  apply BitVec.eq_of_toNat_eq
  simp only [satAdd_toNat]
  omega

theorem satInc_eq_satAdd (w : Word) : satInc w = satAdd w 1 := by
  apply BitVec.eq_of_toNat_eq
  rw [satAdd_toNat]
  unfold satInc
  split
  · next top => rw [top]; rfl
  · next below =>
    have short : w.toNat ≠ 65535 := fun e => below (BitVec.eq_of_toNat_eq e)
    have := w.isLt
    show (w.toNat + 1) % 65536 = _
    omega

/-- A rule whose n oldest contexts, or all where it has fewer, have lapsed and are counted (R119). -/
def CorrRule.oldestLapsed (x : CorrRule) (n : Nat) : CorrRule :=
  { x with
    contexts := x.contexts.drop n
    lapseCount := satAdd x.lapseCount (min n x.contexts.length) }

theorem CorrRule.oldestLapsed_zero (x : CorrRule) : x.oldestLapsed 0 = x := by
  simp [CorrRule.oldestLapsed, satAdd_zero]

theorem CorrRule.oldestLapsed_add (x : CorrRule) (m n : Nat) :
    (x.oldestLapsed m).oldestLapsed n = x.oldestLapsed (m + n) := by
  unfold CorrRule.oldestLapsed
  simp only [List.drop_drop, List.length_drop, satAdd_satAdd]
  congr 2
  omega

theorem lapse_none {reason : LapseReason} {r : RuleId} {k : Nat} {s : State}
    (none_ : (s.rules.get r).contexts[k]? = none) : lapse reason r k s = s := by
  unfold lapse
  rw [none_]

/-- A lapse appends, counts, frees the context and ends an exhaustion episode (R117, R119). -/
theorem lapse_some {reason : LapseReason} {r : RuleId} {k : Nat} {s : State} {c : CorrContext}
    (at_ : (s.rules.get r).contexts[k]? = some c) : ∃ u, OnlyReports s u ∧
    lapse reason r k s = { u.setRule r { s.rules.get r with
        contexts := (s.rules.get r).contexts.eraseIdx k
        lapseCount := satInc (s.rules.get r).lapseCount } with exhausted := false } := by
  have recorded : OnlyReports s (if reason ≠ .window ∨ (s.rules.get r).recordLapses = true then
      report c.start c.anyTest (.lapsed r reason c.positions c.refs) s else s) := by
    split
    · exact report_onlyReports _ _ _ _
    · exact OnlyReports.refl s
  refine ⟨_, recorded, ?_⟩
  unfold lapse freeContext State.setRule
  simp only [at_, get_put_same, put_put_same, recorded.rules]

/-- What the lapse of a rule's context leaves alone: the other rules, the groups, the Alarm List and the outputs. -/
structure RuleLapsed (r : RuleId) (s t : State) : Prop where
  others : ∀ k, k ≠ r → t.rules.get k = s.rules.get k
  groups : t.groups = s.groups
  alarms : t.alarms = s.alarms
  outputs : t.outputs = s.outputs

theorem lapse_lapsed (reason : LapseReason) (r : RuleId) (k : Nat) (s : State) : RuleLapsed r s (lapse reason r k s) := by
  cases at_ : (s.rules.get r).contexts[k]? with
  | none =>
    rw [lapse_none at_]
    exact ⟨fun _ _ => rfl, rfl, rfl, rfl⟩
  | some c =>
    obtain ⟨u, reports, is⟩ := lapse_some (reason := reason) at_
    rw [is]
    refine ⟨fun j ne => ?_, reports.groups, reports.alarms, reports.outputs⟩
    show (put u.rules r _).get j = _
    rw [get_put_other _ _ _ _ ne, reports.rules]

/-- The lapse of a rule's oldest context at that rule. -/
theorem lapse_oldest (reason : LapseReason) (r : RuleId) (s : State) :
    (lapse reason r 0 s).rules.get r = (s.rules.get r).oldestLapsed 1 := by
  cases contexts : (s.rules.get r).contexts with
  | nil =>
    rw [lapse_none (by rw [contexts]; rfl)]
    unfold CorrRule.oldestLapsed
    rw [contexts, List.length_nil, Nat.min_zero, satAdd_zero, List.drop_nil, ← contexts]
  | cons c cs =>
    obtain ⟨u, -, is⟩ := lapse_some (reason := reason) (s := s) (r := r) (k := 0) (c := c) (by rw [contexts]; rfl)
    rw [is]
    show (put u.rules r _).get r = _
    rw [get_put_same]
    simp [CorrRule.oldestLapsed, contexts, satInc_eq_satAdd]

/-- A lapse ends an exhaustion episode, and begins none (R117). -/
theorem lapse_exhausted_false {reason : LapseReason} {r : RuleId} {k : Nat} {s : State}
    (h : s.exhausted = false ∨ (s.rules.get r).contexts[k]?.isSome = true) : (lapse reason r k s).exhausted = false := by
  cases at_ : (s.rules.get r).contexts[k]? with
  | none =>
    rw [lapse_none at_]
    simpa [at_] using h
  | some c =>
    obtain ⟨u, -, is⟩ := lapse_some (reason := reason) at_
    rw [is]

/-! ## What a notice does, one thing after another -/

/-- The groups that a list of things to do names, in its order. -/
def groupsOf (items : List (GroupId ⊕ RuleId)) : List GroupId := items.filterMap Sum.getLeft?

/-- The rules that it names, in its order. -/
def rulesOf (items : List (GroupId ⊕ RuleId)) : List RuleId := items.filterMap Sum.getRight?

@[simp] theorem groupsOf_group (g : GroupId) (items : List (GroupId ⊕ RuleId)) :
    groupsOf (.inl g :: items) = g :: groupsOf items := rfl
@[simp] theorem groupsOf_rule (r : RuleId) (items : List (GroupId ⊕ RuleId)) :
    groupsOf (.inr r :: items) = groupsOf items := rfl
@[simp] theorem rulesOf_group (g : GroupId) (items : List (GroupId ⊕ RuleId)) :
    rulesOf (.inl g :: items) = rulesOf items := rfl
@[simp] theorem rulesOf_rule (r : RuleId) (items : List (GroupId ⊕ RuleId)) :
    rulesOf (.inr r :: items) = r :: rulesOf items := rfl

theorem noticeActions_group_first (g : GroupId) (rest : List (GroupId ⊕ RuleId)) (s : State) :
    noticeActions (.inl g :: rest) s = noticeActions rest (resolveGroup g true s) := rfl

theorem noticeActions_rule_first (r : RuleId) (rest : List (GroupId ⊕ RuleId)) (s : State) :
    noticeActions (.inr r :: rest) s = noticeActions rest (lapse .timeStep r 0 s) := rfl

/-- The Alarm List and the outputs stand (R34). -/
theorem noticeActions_stand (items : List (GroupId ⊕ RuleId)) (s : State) :
    (noticeActions items s).alarms = s.alarms ∧ (noticeActions items s).outputs = s.outputs := by
  induction items generalizing s with
  | nil => exact ⟨rfl, rfl⟩
  | cons a rest ih =>
    cases a with
    | inl g =>
      have kept := resolveGroup_resolved g true s
      obtain ⟨alarms, outputs⟩ := ih (resolveGroup g true s)
      exact ⟨alarms.trans kept.alarms, outputs.trans kept.outputs⟩
    | inr r =>
      have kept := lapse_lapsed .timeStep r 0 s
      obtain ⟨alarms, outputs⟩ := ih (lapse .timeStep r 0 s)
      exact ⟨alarms.trans kept.alarms, outputs.trans kept.outputs⟩

/-- A rule's oldest contexts lapse, one for each time the list names the rule. -/
theorem noticeActions_rule (items : List (GroupId ⊕ RuleId)) (r : RuleId) (s : State) :
    (noticeActions items s).rules.get r = (s.rules.get r).oldestLapsed ((rulesOf items).count r) := by
  induction items generalizing s with
  | nil => exact (CorrRule.oldestLapsed_zero _).symm
  | cons a rest ih =>
    cases a with
    | inl g => rw [noticeActions_group_first, ih, (resolveGroup_resolved g true s).rules, rulesOf_group]
    | inr k =>
      rw [noticeActions_rule_first, ih, rulesOf_rule]
      by_cases same : k = r
      · rw [same, List.count_cons_self, lapse_oldest, CorrRule.oldestLapsed_add, Nat.add_comm]
      · rw [List.count_cons_of_ne same, (lapse_lapsed .timeStep k 0 s).others r (Ne.symm same)]

/-- A group that the list does not name stands. -/
theorem noticeActions_group_other {items : List (GroupId ⊕ RuleId)} {g : GroupId} (out : g ∉ groupsOf items) (s : State) :
    (noticeActions items s).groups.get g = s.groups.get g := by
  induction items generalizing s with
  | nil => rfl
  | cons a rest ih =>
    cases a with
    | inl k =>
      rw [groupsOf_group, List.mem_cons, not_or] at out
      rw [noticeActions_group_first, ih out.2, (resolveGroup_resolved k true s).others g out.1]
    | inr r =>
      rw [groupsOf_rule] at out
      rw [noticeActions_rule_first, ih out, (lapse_lapsed .timeStep r 0 s).groups]

/-- A group with candidates that the list names once trips on them, with its cause (R51, R55). -/
theorem noticeActions_group {items : List (GroupId ⊕ RuleId)} {g : GroupId} {s : State} {f : Candidate}
    (once : (groupsOf items).Nodup) (named : g ∈ groupsOf items)
    (first : firstOutOf (s.groups.get g).candidates = some f) :
    (noticeActions items s).groups.get g = (s.groups.get g).resolvedOn true f ∧
    (noticeActions items s).causeSet .groupTrip = true := by
  induction items generalizing s with
  | nil => exact absurd named List.not_mem_nil
  | cons a rest ih =>
    cases a with
    | inl k =>
      rw [groupsOf_group] at once named
      obtain ⟨apart, once⟩ := List.nodup_cons.mp once
      rw [noticeActions_group_first]
      by_cases same : g = k
      · subst same
        obtain ⟨u, reports, is⟩ := resolveGroup_some (d := true) first
        rw [is]
        refine ⟨?_, (noticeActions_handled rest _).causes _ (raise_sets _ _)⟩
        rw [noticeActions_group_other apart, raise_groups, reports.groups, setGroup_groups, get_put_same]
      · have stands := (resolveGroup_resolved k true s).others g same
        rw [← stands] at first ⊢
        exact ih once ((List.mem_cons.mp named).resolve_left same) first
    | inr r =>
      have stands : (lapse .timeStep r 0 s).groups.get g = s.groups.get g := by rw [(lapse_lapsed .timeStep r 0 s).groups]
      rw [noticeActions_rule_first]
      rw [← stands] at first ⊢
      exact ih once named first

/-- With no exhaustion episode none begins. -/
theorem noticeActions_exhausted_false (items : List (GroupId ⊕ RuleId)) {s : State} (h : s.exhausted = false) :
    (noticeActions items s).exhausted = false := by
  induction items generalizing s with
  | nil => exact h
  | cons a rest ih =>
    cases a with
    | inl g => exact ih ((resolveGroup_resolved g true s).exhausted.trans h)
    | inr r => exact ih (lapse_exhausted_false (.inl h))

/-- The lapse of an open context ends an exhaustion episode (R117). -/
theorem noticeActions_exhausted_ends {items : List (GroupId ⊕ RuleId)} {r : RuleId} {s : State}
    (named : r ∈ rulesOf items) (open_ : (s.rules.get r).contexts ≠ []) : (noticeActions items s).exhausted = false := by
  induction items generalizing s with
  | nil => exact absurd named List.not_mem_nil
  | cons a rest ih =>
    cases a with
    | inl g =>
      rw [← (resolveGroup_resolved g true s).rules] at open_
      exact ih named open_
    | inr k =>
      by_cases same : r = k
      · subst same
        obtain ⟨c, cs, is⟩ := List.exists_cons_of_ne_nil open_
        exact noticeActions_exhausted_false rest (lapse_exhausted_false (.inr (by rw [is]; rfl)))
      · rw [← (lapse_lapsed .timeStep k 0 s).others r same] at open_
        exact ih ((List.mem_cons.mp named).resolve_left same) open_

/-- Without a lapse an exhaustion episode goes on. -/
theorem noticeActions_exhausted_stands {items : List (GroupId ⊕ RuleId)} (none_ : rulesOf items = []) (s : State) :
    (noticeActions items s).exhausted = s.exhausted := by
  induction items generalizing s with
  | nil => rfl
  | cons a rest ih =>
    cases a with
    | inl g => exact (ih none_ _).trans (resolveGroup_resolved g true s).exhausted
    | inr r => exact absurd none_ (List.cons_ne_nil _ _)

/-! ## The whole notice -/

/-- Two sequences interleaved hold the items of both. -/
theorem interleave_perm {α : Type} (choose : Nat → Bool) (fuel : Nat) (xs ys : List α) :
    (interleave choose fuel xs ys).Perm (xs ++ ys) := by
  fun_induction interleave choose fuel xs ys with
  | case1 => exact .refl _
  | case2 fuel x xs y ys _ ih => exact ih.cons x
  | case3 fuel x xs y ys _ ih => exact (ih.cons y).trans List.perm_middle.symm
  | case4 => exact .refl _

/-- The things a notice does, in the order the free value gives (R34, log 5). -/
def State.noticeItems (s : State) : List (GroupId ⊕ RuleId) :=
  let gs : List (GroupId ⊕ RuleId) := s.resolvingGroups.map Sum.inl
  let rs : List (GroupId ⊕ RuleId) := s.openByRule.map Sum.inr
  interleave (Config.noticeChoice s.freeIndex) (gs.length + rs.length) gs rs

/-- The free choices used after a notice (log 21). -/
def State.noticeIndex (s : State) : Nat :=
  let gs : List (GroupId ⊕ RuleId) := s.resolvingGroups.map Sum.inl
  let rs : List (GroupId ⊕ RuleId) := s.openByRule.map Sum.inr
  if gs = [] ∨ rs = [] then s.freeIndex else s.freeIndex + 1

theorem discontinuityNotice_eq (s : State) :
    discontinuityNotice s = noticeActions s.noticeItems { s with freeIndex := s.noticeIndex } := rfl

theorem noticeItems_perm (s : State) :
    s.noticeItems.Perm (s.resolvingGroups.map Sum.inl ++ s.openByRule.map Sum.inr) := interleave_perm _ _ _ _

/-- A notice names the resolving groups, each once. -/
theorem groupsOf_noticeItems (s : State) : (groupsOf s.noticeItems).Perm s.resolvingGroups := by
  have perm := (noticeItems_perm s).filterMap Sum.getLeft?
  simpa [groupsOf, List.filterMap_append, List.filterMap_map, Function.comp_def] using perm

/-- It names each rule as often as the rule has open contexts. -/
theorem rulesOf_noticeItems (s : State) : (rulesOf s.noticeItems).Perm s.openByRule := by
  have perm := (noticeItems_perm s).filterMap Sum.getRight?
  simpa [rulesOf, List.filterMap_append, List.filterMap_map, Function.comp_def] using perm

theorem mem_resolvingGroups (s : State) (g : GroupId) : g ∈ s.resolvingGroups ↔ (s.groups.get g).phase = .resolving := by
  simp [State.resolvingGroups]

theorem resolvingGroups_nodup (s : State) : s.resolvingGroups.Nodup := (List.nodup_finRange 8).filter _

theorem count_openByRule (s : State) (r : RuleId) : s.openByRule.count r = (s.rules.get r).contexts.length := by
  rw [State.openByRule, List.count_flatMap, ← Fin.sum_univ_def]
  simp [List.count_replicate]

theorem mem_openByRule (s : State) (r : RuleId) : r ∈ s.openByRule ↔ (s.rules.get r).contexts ≠ [] := by
  simp [State.openByRule]

/-- A rule after a notice: every open context has lapsed and is counted (R124). -/
theorem discontinuityNotice_rule (s : State) (r : RuleId) : (discontinuityNotice s).rules.get r = { s.rules.get r with
    contexts := []
    lapseCount := satAdd (s.rules.get r).lapseCount (s.rules.get r).contexts.length } := by
  rw [discontinuityNotice_eq, noticeActions_rule, (rulesOf_noticeItems s).count_eq, count_openByRule]
  simp [CorrRule.oldestLapsed]

/-- A group that is not resolving stands (R55). -/
theorem discontinuityNotice_group_stands {s : State} {g : GroupId} (h : (s.groups.get g).phase ≠ .resolving) :
    (discontinuityNotice s).groups.get g = s.groups.get g := by
  rw [discontinuityNotice_eq, noticeActions_group_other]
  rwa [(groupsOf_noticeItems s).mem_iff, mem_resolvingGroups]

/-- A resolving group trips on the candidates held, with its discontinuity flag and its cause (R51, R55). -/
theorem discontinuityNotice_group_trips {s : State} {g : GroupId} {f : Candidate}
    (h : (s.groups.get g).phase = .resolving) (first : firstOutOf (s.groups.get g).candidates = some f) :
    (discontinuityNotice s).groups.get g = (s.groups.get g).resolvedOn true f ∧
    (discontinuityNotice s).causeSet .groupTrip = true := by
  have groups := groupsOf_noticeItems s
  rw [discontinuityNotice_eq]
  refine noticeActions_group (groups.nodup_iff.mpr (resolvingGroups_nodup s)) ?_ first
  rwa [groups.mem_iff, mem_resolvingGroups]

/-- With an open context an exhaustion episode ends (R117). -/
theorem discontinuityNotice_exhausted_ends {s : State} {r : RuleId} (open_ : (s.rules.get r).contexts ≠ []) :
    (discontinuityNotice s).exhausted = false := by
  rw [discontinuityNotice_eq]
  refine noticeActions_exhausted_ends (r := r) ?_ open_
  rwa [(rulesOf_noticeItems s).mem_iff, mem_openByRule]

theorem openByRule_nil {s : State} (none_ : ∀ r, (s.rules.get r).contexts = []) : s.openByRule = [] :=
  List.eq_nil_iff_forall_not_mem.mpr fun r mem => (mem_openByRule s r).mp mem (none_ r)

theorem resolvingGroups_nil {s : State} (none_ : ∀ g, (s.groups.get g).phase ≠ .resolving) : s.resolvingGroups = [] :=
  List.eq_nil_iff_forall_not_mem.mpr fun g mem => none_ g ((mem_resolvingGroups s g).mp mem)

/-- With no open context it stands. -/
theorem discontinuityNotice_exhausted_stands {s : State} (none_ : ∀ r, (s.rules.get r).contexts = []) :
    (discontinuityNotice s).exhausted = s.exhausted := by
  rw [discontinuityNotice_eq, noticeActions_exhausted_stands]
  exact List.Perm.eq_nil ((openByRule_nil none_) ▸ rulesOf_noticeItems s)

/-- With no group resolving and no context open a notice does nothing. -/
theorem discontinuityNotice_quiet {s : State} (groups : ∀ g, (s.groups.get g).phase ≠ .resolving)
    (rules : ∀ r, (s.rules.get r).contexts = []) : discontinuityNotice s = s := by
  have items := noticeItems_perm s
  rw [resolvingGroups_nil groups, openByRule_nil rules] at items
  have index : s.noticeIndex = s.freeIndex := by
    unfold State.noticeIndex
    rw [resolvingGroups_nil groups]
    exact if_pos (.inl rfl)
  rw [discontinuityNotice_eq, items.eq_nil, index]
  rfl

/-- What one notice does to the groups, the rules and the exhaustion flag, and what it leaves alone (R34, R55, R124). -/
theorem discontinuityNotice_ends {s t : State} (is : t = discontinuityNotice s) :
    OnlyEvents s t ∧ t.lines = s.lines ∧ t.alarms = s.alarms ∧ t.outputs = s.outputs ∧
    (∀ r, t.rules.get r = { s.rules.get r with
      contexts := []
      lapseCount := satAdd (s.rules.get r).lapseCount (s.rules.get r).contexts.length }) ∧
    ((∃ r, (s.rules.get r).contexts ≠ []) → t.exhausted = false) ∧
    ((∀ r, (s.rules.get r).contexts = []) → t.exhausted = s.exhausted) ∧
    (∀ g, (s.groups.get g).phase ≠ .resolving → t.groups.get g = s.groups.get g) := by
  subst is
  have handled := discontinuityNotice_handled s
  obtain ⟨alarms, outputs⟩ := noticeActions_stand s.noticeItems { s with freeIndex := s.noticeIndex }
  exact ⟨handled.events, handled.lines, alarms, outputs, discontinuityNotice_rule s,
    fun ⟨_, open_⟩ => discontinuityNotice_exhausted_ends open_, discontinuityNotice_exhausted_stands,
    fun _ => discontinuityNotice_group_stands⟩

/-! ## SET TIME (R32, R191) -/

/-- SET TIME from the control half completes with DONE. -/
theorem exec_setTime {s : State} (running : s.inReset = false) {v : Timestamp}
    (loaded : v = s.time.setHigh ++ s.slots.control.arg0 ++ s.slots.control.arg1) :
    exec (.setTime .control) s =
      .next ((setCounter v s).setSlot .control (s.slots.control.answered 0x10 0x1001)) := by
  subst loaded
  exact command_next running rfl (by decide)

/-- Settles O26: the command first, then its notice. -/
theorem setTimeLoadsTheCounter : Obligations.SetTimeLoadsTheCounter := by
  refine ⟨fun s v q running loaded locks stays => ?_, fun s t is => ?_⟩
  · have quality : s.time.setQuality = q := by
      unfold TimeBase.setQuality
      split
      · next relocks => exact (locks relocks).symm
      · next keeps => exact (stays keeps).symm
    subst quality
    exact ⟨setCounter v s, exec_setTime running loaded, setCounter_time v s, setCounter_eq v s,
      (setCounter_linesStand v s).lines⟩
  · obtain ⟨events, lines, alarms, outputs, rules, ends, goesOn, stands⟩ := discontinuityNotice_ends is
    refine ⟨events, lines, alarms, outputs, rules, ends, goesOn, stands, ?_⟩
    rintro g x rfl resolving some_
    obtain ⟨f, inside, first, least⟩ := firstOutOf_spec some_
    obtain ⟨trips, cause⟩ := discontinuityNotice_group_trips resolving first
    rw [is, trips]
    exact ⟨f, inside, least, rfl, rfl, rfl, rfl, rfl, rfl, cause⟩

end Sys2Proof.Machine

/-! PROOFS. Pulse: a SYNC pulse corrects or steps the counter by its offset (O28). -/
namespace Sys2Proof.Machine

/-! ## The offset of a pulse (R29) -/

/-- The distance from a second's fraction to the nearest whole second. -/
def secondDistance (r : Nat) : Nat := if r < 500000 then r else 1000000 - r

theorem pulseOffset_eq (t : Timestamp) : pulseOffset t =
    if t.toNat % 1000000 < 500000 then -((t.toNat % 1000000 : Nat) : Int)
    else 1000000 - ((t.toNat % 1000000 : Nat) : Int) := rfl

theorem pulseOffset_natAbs (t : Timestamp) : (pulseOffset t).natAbs = secondDistance (t.toNat % 1000000) := by
  rw [pulseOffset_eq, secondDistance]
  split <;> omega

/-- A pulse before the half second never moves the counter forward, one after it always does. -/
theorem pulseOffset_nonneg_iff (t : Timestamp) :
    0 ≤ pulseOffset t ↔ t.toNat % 1000000 = 0 ∨ 500000 ≤ t.toNat % 1000000 := by
  rw [pulseOffset_eq]
  split <;> omega

/-- The counter moved by the offset stands at the nearest whole second, held at the largest value (R25, R30). -/
theorem moveBy_pulseOffset (t : Timestamp) : moveBy t (pulseOffset t) =
    if t.toNat % 1000000 < 500000 then BitVec.ofNat 48 (t.toNat - t.toNat % 1000000)
    else satAdvance t (1000000 - t.toNat % 1000000) := by
  have size := t.isLt
  unfold moveBy satAdvance maxTimestamp
  rw [pulseOffset_eq]
  split <;> congr 1 <;> omega

theorem moveBy_zero (t : Timestamp) : moveBy t 0 = t := by
  have size := t.isLt
  apply BitVec.eq_of_toNat_eq
  unfold moveBy maxTimestamp
  rw [BitVec.toNat_ofNat]
  omega

/-! ## A pulse within the step limit (R29) -/

/-- A correction is at the Time Base alone. -/
theorem correctCounter_eq (offset : Int) (s : State) :
    correctCounter offset s = { s with time := (correctCounter offset s).time } := by
  unfold correctCounter
  split <;> rfl

/-- Forward at once, backward by a hold (R29). -/
theorem correctCounter_pulse {s : State} (unheld : s.time.hold = 0) :
    (correctCounter (pulseOffset s.time.counter) s).time = { s.time with
      counter := if s.time.counter.toNat % 1000000 < 500000 then s.time.counter
        else satAdvance s.time.counter (1000000 - s.time.counter.toNat % 1000000)
      hold := if s.time.counter.toNat % 1000000 < 500000 then BitVec.ofNat 16 (s.time.counter.toNat % 1000000) else 0 } := by
  have sign := pulseOffset_nonneg_iff s.time.counter
  have size := pulseOffset_natAbs s.time.counter
  have moved := moveBy_pulseOffset s.time.counter
  rw [correctCounter_time]
  by_cases early : s.time.counter.toNat % 1000000 < 500000
  · rw [secondDistance, if_pos early] at size
    simp only [if_pos early]
    by_cases whole : s.time.counter.toNat % 1000000 = 0
    · have zero : pulseOffset s.time.counter = 0 := by omega
      simp only [zero, whole, moveBy_zero, unheld, le_refl, if_pos]
      rfl
    · have back : ¬0 ≤ pulseOffset s.time.counter := by omega
      simp only [if_neg back, size, toWord]
  · rw [if_neg early] at moved
    have forward : 0 ≤ pulseOffset s.time.counter := by omega
    simp only [if_neg early, if_pos forward, moved, unheld]

/-! ## The records of a quality change and a step (R30, R33) -/

theorem changeQuality_groups (q : Quality) (s : State) : (changeQuality q s).groups = s.groups := by
  unfold changeQuality
  split
  · rfl
  · rw [raise_groups, (report_onlyReports _ _ _ _).groups]

theorem changeQuality_rules (q : Quality) (s : State) : (changeQuality q s).rules = s.rules := by
  unfold changeQuality
  split
  · rfl
  · rw [raise_rules, (report_onlyReports _ _ _ _).rules]

/-- A TIME record is 9 words long (R62, Table 46). -/
theorem Body.len_time (k : TimeKind) (old new : Quality) (step : BitVec 48) : (Body.time k old new step).len = 9 := rfl

/-- The store after it has written one record (R60, R66). -/
def Store.written (st : Store) (stamp : Stamp) (test : Bool) (body : Body) : Store :=
  { st with
    records := st.records ++ [⟨st.next, stamp, test, body⟩]
    tail := st.tail + BitVec.ofNat 12 body.len
    next := st.next + 1 }

/-- A record written takes its length from the free words. -/
theorem Store.written_free (st : Store) (stamp : Stamp) (test : Bool) (body : Body) :
    (st.written stamp test body).free = st.free - body.len := by
  unfold Store.free Store.written
  rw [wordsOf_append, wordsOf_cons, wordsOf_nil]
  show 4096 - (wordsOf st.records + (body.len + 0)) = _
  omega

/-- With room and no loss pending a request is written (R68). -/
theorem report_fits {s : State} {stamp : Stamp} {test : Bool} {body : Body} (whole : s.store.loss = none)
    (fits : body.len + 5 ≤ s.store.free) : (report stamp test body s).store = s.store.written stamp test body := by
  rw [report, append_fits whole fits, writeRecord_store]
  rfl

/-- With room a change of quality appends its QUALITY record alone (R33). -/
theorem changeQuality_written {q : Quality} {s : State} (changes : s.time.quality ≠ q) (whole : s.store.loss = none)
    (room : 14 ≤ s.store.free) : (changeQuality q s).store =
      s.store.written ⟨s.time.counter, q⟩ false (.time .quality s.time.quality q 0) := by
  rw [changeQuality_other changes, raise_store]
  exact report_fits whole room

/-- A step before its notice, as `takePulse_beyond` has it: the counter set, the STEP record, the change of quality (R30). -/
def stepBegun (q : Quality) (offset : Int) (s : State) : State :=
  changeQuality q (report ⟨moveBy s.time.counter offset, s.time.quality⟩ false
    (.time .step s.time.quality q (BitVec.ofInt 48 offset))
    { s with time := { s.time with counter := moveBy s.time.counter offset, hold := 0 } })

theorem stepBegun_groups (q : Quality) (offset : Int) (s : State) : (stepBegun q offset s).groups = s.groups := by
  rw [stepBegun, changeQuality_groups, (report_onlyReports _ _ _ _).groups]

theorem stepBegun_rules (q : Quality) (offset : Int) (s : State) : (stepBegun q offset s).rules = s.rules := by
  rw [stepBegun, changeQuality_rules, (report_onlyReports _ _ _ _).rules]

/-- A step that changes the quality sets TIME QUALITY (R33). -/
theorem stepBegun_cause {q : Quality} {offset : Int} {s : State} (changes : s.time.quality ≠ q) :
    (stepBegun q offset s).causeSet .timeQuality = true :=
  changeQuality_cause (by rw [report_time]; exact changes)

/-- With room a step appends its STEP record under the quality before, then its QUALITY record (R30, R33). -/
theorem stepBegun_written {q : Quality} {offset : Int} {s : State} (changes : s.time.quality ≠ q)
    (whole : s.store.loss = none) (room : 23 ≤ s.store.free) : (stepBegun q offset s).store =
      (s.store.written ⟨moveBy s.time.counter offset, s.time.quality⟩ false
        (.time .step s.time.quality q (BitVec.ofInt 48 offset))).written
        ⟨moveBy s.time.counter offset, q⟩ false (.time .quality s.time.quality q 0) := by
  have stepped := report_fits (s := { s with time := { s.time with
      counter := moveBy s.time.counter offset, hold := 0 } }) (stamp := ⟨moveBy s.time.counter offset, s.time.quality⟩)
    (test := false) (body := .time .step s.time.quality q (BitVec.ofInt 48 offset)) whole
    (by rw [Body.len_time]; exact Nat.le_trans (by decide) room)
  rw [stepBegun, changeQuality_written (by rw [report_time]; exact changes) (by rw [stepped]; exact whole)
    (by rw [stepped, Store.written_free, Body.len_time]; show 14 ≤ s.store.free - 9; omega), stepped, report_time]

/-- Under HOLD a notice removes no record, and with nothing to end it appends none. -/
theorem discontinuityNotice_records {s : State} {quiet : Bool}
    (quietIs : quiet = true ↔ (∀ g, (s.groups.get g).phase ≠ .resolving) ∧ ∀ k, (s.rules.get k).contexts = [])
    (policy : s.store.policy = .hold ∨ quiet = true) :
    ∃ more, (quiet = true → more = []) ∧ (discontinuityNotice s).store.records = s.store.records ++ more := by
  cases quiet with
  | true =>
    obtain ⟨groups, rules⟩ := quietIs.mp rfl
    exact ⟨[], fun _ => rfl, by rw [discontinuityNotice_quiet groups rules, List.append_nil]⟩
  | false =>
    obtain ⟨more, records⟩ := (discontinuityNotice_handled s).grows (policy.resolve_right Bool.false_ne_true)
    exact ⟨more, fun e => absurd e Bool.false_ne_true, records⟩

/-! ## The pulse whole -/

theorem exec_syncPulse {s : State} (running : s.inReset = false) (clock : s.clockRunning = true) :
    exec .syncPulse s = .next (if s.time.syncEnable then takePulse s else s) :=
  congrArg Host.Outcome.next (timed_running _ running clock)

/-- The part with its counter corrected by the offset of a pulse, or held back by it (R29). -/
def State.corrected (s : State) : State := { s with time := { s.time with
  counter := if s.time.counter.toNat % 1000000 < 500000 then s.time.counter
    else satAdvance s.time.counter (1000000 - s.time.counter.toNat % 1000000)
  hold := if s.time.counter.toNat % 1000000 < 500000 then BitVec.ofNat 16 (s.time.counter.toNat % 1000000) else 0 } }

theorem correctCounter_unheld (s : State) : correctCounter (pulseOffset s.time.counter) s.unheld = s.corrected := by
  rw [correctCounter_eq]
  have time : (correctCounter (pulseOffset s.time.counter) s.unheld).time = _ := correctCounter_pulse (s := s.unheld) rfl
  rw [time]
  rfl

/-- A pulse aligned to within the step limit (R28, R29). -/
theorem takePulse_within {s : State} (aligns : s.time.aligns)
    (near : secondDistance (s.time.counter.toNat % 1000000) ≤ s.time.stepLimit.toNat) :
    takePulse s = (changeQuality .locked s.corrected).referenced := by
  rw [takePulse_aligns aligns, alignCounter_within (by rw [pulseOffset_natAbs]; exact near)]
  exact congrArg (fun u => (changeQuality .locked u).referenced) (correctCounter_unheld s)

/-- The step of a pulse beyond the step limit, before its notice (R30). -/
def State.pulseStep (s : State) : State := stepBegun s.time.quality.afterStep (pulseOffset s.time.counter) s.unheld

/-- A pulse aligned to beyond the step limit (R28, R30, R34). -/
theorem takePulse_beyond {s : State} (aligns : s.time.aligns)
    (far : s.time.stepLimit.toNat < secondDistance (s.time.counter.toNat % 1000000)) :
    takePulse s = (discontinuityNotice s.pulseStep).referenced := by
  rw [takePulse_aligns aligns, alignCounter_beyond (by rw [pulseOffset_natAbs]; exact far)]
  rfl

/-- The Time Base after a step at a pulse (R30). -/
theorem pulseStep_time (s : State) : s.pulseStep.time = { s.time with
    counter := if s.time.counter.toNat % 1000000 < 500000
      then BitVec.ofNat 48 (s.time.counter.toNat - s.time.counter.toNat % 1000000)
      else satAdvance s.time.counter (1000000 - s.time.counter.toNat % 1000000)
    hold := 0
    quality := s.time.quality.afterStep } := by
  rw [State.pulseStep, stepBegun, changeQuality_time, report_time, ← moveBy_pulseOffset]
  rfl

/-- A step always changes the quality (R30). -/
theorem Quality.ne_afterStep (q : Quality) : q ≠ q.afterStep := by cases q <;> decide

theorem pulseStep_cause (s : State) : s.pulseStep.causeSet .timeQuality = true :=
  stepBegun_cause (s := s.unheld) s.time.quality.ne_afterStep

theorem pulseStep_groups (s : State) : s.pulseStep.groups = s.groups := stepBegun_groups _ _ s.unheld

theorem pulseStep_rules (s : State) : s.pulseStep.rules = s.rules := stepBegun_rules _ _ s.unheld

/-- The store after a step at a pulse, before its notice (R30, R33). -/
theorem pulseStep_written {s : State} (whole : s.store.loss = none) (room : 23 ≤ s.store.free) : s.pulseStep.store =
    (s.store.written ⟨s.pulseStep.time.counter, s.time.quality⟩ false
      (.time .step s.time.quality s.pulseStep.time.quality (BitVec.ofInt 48 (pulseOffset s.time.counter)))).written
      ⟨s.pulseStep.time.counter, s.pulseStep.time.quality⟩ false
      (.time .quality s.time.quality s.pulseStep.time.quality 0) := by
  rw [pulseStep_time, ← moveBy_pulseOffset]
  exact stepBegun_written (s := s.unheld) s.time.quality.ne_afterStep whole room

/-- Becoming the reference leaves the store, the groups, the rules and the causes as they are (R27). -/
@[simp] theorem referenced_store (s : State) : s.referenced.store = s.store := rfl
@[simp] theorem referenced_groups (s : State) : s.referenced.groups = s.groups := rfl
@[simp] theorem referenced_rules (s : State) : s.referenced.rules = s.rules := rfl
@[simp] theorem referenced_causeSet (s : State) (c : SystemCause) : s.referenced.causeSet c = s.causeSet c := rfl

/-- A resolving group with candidates trips at a notice (R55). -/
theorem discontinuityNotice_tripped {s : State} {g : GroupId} (h : (s.groups.get g).phase = .resolving)
    (some_ : (s.groups.get g).candidates ≠ []) : ((discontinuityNotice s).groups.get g).phase = .tripped ∧
    ((discontinuityNotice s).groups.get g).discontinuity = true := by
  obtain ⟨f, -, first, -⟩ := firstOutOf_spec some_
  rw [(discontinuityNotice_group_trips h first).1]
  exact ⟨rfl, rfl⟩

/-- Settles O28: a pulse ignored, one that corrects nothing, one within the step limit, one beyond it. -/
theorem syncPulseAlignsTheCounter : Obligations.SyncPulseAlignsTheCounter := by
  rintro s r running clock rfl
  rw [exec_syncPulse running clock]
  refine ⟨fun off => ?_, fun on acquiring irregular => ?_, fun on aligned => ?_⟩
  · rw [off]
    rfl
  · have none_ : s.time.regular = false := by
      rw [← Bool.not_eq_true, TimeBase.regular_iff]
      rintro ⟨ref, at_, upper, lower⟩
      have := irregular ref at_
      omega
    rw [if_pos on, takePulse_irregular acquiring none_]
    rfl
  · have aligns : s.time.aligns := by
      rw [TimeBase.aligns, TimeBase.regular_iff]
      exact aligned
    rw [if_pos on]
    refine ⟨takePulse s, rfl, (takePulse_linesStand s).lines, fun near => ?_, fun far => ?_⟩
    · rw [takePulse_within aligns near]
      refine ⟨?_, changeQuality_groups .locked s.corrected, changeQuality_rules .locked s.corrected, fun locked => ?_,
        fun unlocked => ⟨changeQuality_cause (s := s.corrected) unlocked, fun whole room => ?_⟩⟩
      · unfold State.referenced
        rw [changeQuality_time]
        rfl
      · rw [changeQuality_same (s := s.corrected) locked]
        rfl
      · have written := changeQuality_written (s := s.corrected) unlocked whole room
        unfold State.referenced
        rw [written, changeQuality_time]
        rfl
    · have time : (discontinuityNotice s.pulseStep).referenced.time = { s.pulseStep.time with
          lastPulse := some s.pulseStep.time.elapsed
          supervision := some (s.pulseStep.time.elapsed + (1000000 + s.pulseStep.time.tolerance.toNat)) } := by
        unfold State.referenced
        rw [discontinuityNotice_time]
      rw [takePulse_beyond aligns far, time, referenced_store, referenced_groups, referenced_rules, referenced_causeSet]
      refine ⟨?_, (discontinuityNotice_handled s.pulseStep).causes _ (pulseStep_cause s), fun g resolving some_ => ?_,
        fun g unresolving => ?_, fun k => ?_, fun whole room quiet quietIs policy => ?_⟩
      · rw [pulseStep_time]
        rfl
      · rw [← pulseStep_groups s] at resolving some_
        exact discontinuityNotice_tripped resolving some_
      · rw [← pulseStep_groups s] at unresolving ⊢
        exact discontinuityNotice_group_stands unresolving
      · rw [discontinuityNotice_rule]
      · have written := pulseStep_written whole room
        rw [← pulseStep_groups s, ← pulseStep_rules s] at quietIs
        obtain ⟨more, none_, records⟩ := discontinuityNotice_records quietIs (by rw [written]; exact policy)
        refine ⟨more, none_, ?_⟩
        rw [records, written]
        simp [Store.written, pulseOffset_eq]

end Sys2Proof.Machine

/-! PROOFS. Window: the words written directly, the writes that are ignored, and the words of the window as they read
(O59). -/
namespace Sys2Proof.Machine

/-! ## Writes that are ignored (R182, R184) -/

/-- The words that are read-only, mirrored or unassigned (Table 38). -/
def ignoredWords : List WordId :=
  [0, 1, 5, 8, 10, 11, 12, 13, 20, 21, 22, 23, 24, 25, 31] ++ [32, 33, 37, 39, 40, 41, 42, 43, 44, 45, 46, 47, 48] ++
  [49, 50, 51, 52, 53, 54, 55, 56, 57, 62, 63]

/-- A word that has no row of its own and is not written directly is one of them. -/
theorem mem_ignoredWords : ∀ w : WordId, wordsWithOwnRow.contains w = false →
    w ∉ ([2, 3, 34, 35, 15, 16, 17, 18] : List WordId) → w ∈ ignoredWords := by decide

theorem writeWord_ignored {w : WordId} (h : w ∈ ignoredWords) (v : Word) (s : State) : writeWord w v s = s := by
  fin_cases h <;> rfl

/-! ## The words of the window (Tables 38 and 39) -/

/-- What the words of a half read as, before their fields are taken apart. -/
structure WindowReads (s : State) (h : Half) (w : Nat → Word) : Prop where
  identity : w 0 = 0x4321
  deviceStatus : w 1 = s.deviceStatusWord
  arg0 : w 2 = (s.slots.get h).arg0
  arg1 : w 3 = (s.slots.get h).arg1
  cmd : w 4 = (s.slots.get h).cmd
  result : w 5 = (s.slots.get h).result
  address : w 6 = (s.ports.get h).word
  tableData : w 7 = s.tableWord (s.ports.get h)
  tableStatus : w 8 = if h = .control then s.tableStatusWord else 0
  storeControl : w 9 = s.store.controlWord
  free : w 10 = toWord s.store.free
  timeHigh : w 11 = s.time.counter.extractLsb' 32 16
  timeMiddle : w 12 = (s.time.latches.get h).middle
  timeLow : w 13 = (s.time.latches.get h).low
  timeControl : w 14 = s.timeControlWord h
  tolerance : w 15 = s.time.tolerance
  stepLimit : w 16 = s.time.stepLimit
  setHigh : w 17 = s.time.setHigh
  summary : w 18 = s.alarms.summaryWord
  outputData : w 19 = s.outputs.data.setWidth 16
  levels : w 20 = s.outputs.levelsWord
  channelData : w 21 = s.channelDataWord h
  channelStatus : w 22 = (s.channels.get h).statusWord
  cursor : w 23 = s.cursorWord h
  unread : w 24 = toWord (s.channels.get h).unread
  missed : w 25 = (s.channels.get h).missed
  threshold : w 26 = (s.channels.get h).threshold
  holdoff : w 27 = (s.channels.get h).holdoff
  channelCauses : w 28 = (s.irq.channel.get h).word
  systemCauses : w 29 = s.irq.systemWord h
  routes : w 30 = s.irq.routesWord
  last : w 31 = 0

theorem windowReads {s : State} {h : Half} {w : Nat → Word} (running : s.inReset = false)
    (is : w = fun n => s.busRead (BitVec.ofNat 6 (n + (if h = .archive then 32 else 0)))) : WindowReads s h w := by
  simp only [busRead_running running] at is
  subst is
  cases h <;> constructor <;> rfl

/-! ## Bits of packed words -/

/-- A list of bits spells a number below 2 to its length. -/
theorem bitsToNat_lt (bs : List Bool) : bitsToNat bs < 2 ^ bs.length := by
  induction bs with
  | nil => decide
  | cons b bs ih =>
    have := Bool.toNat_lt b
    rw [bitsToNat, List.length_cons, Nat.pow_succ]
    omega

/-- A bit of a word that two fields spell, the lower n bits wide: one of the lower field's or one of the upper's. -/
theorem toWord_getLsbD_low {n low high i : Nat} (fits : low < 2 ^ n) (below : i < n) (small : i < 16) :
    (toWord (low + 2 ^ n * high)).getLsbD i = low.testBit i := by
  rw [toWord, BitVec.getLsbD_ofNat, Nat.add_comm, Nat.testBit_two_pow_mul_add _ fits, if_pos below]
  simp [small]

theorem toWord_getLsbD_high {n low high i : Nat} (fits : low < 2 ^ n) (small : n + i < 16) :
    (toWord (low + 2 ^ n * high)).getLsbD (n + i) = high.testBit i := by
  rw [toWord, BitVec.getLsbD_ofNat, Nat.add_comm low, Nat.testBit_two_pow_mul_add _ fits, if_neg (by omega)]
  simp [small]

/-- The bits a table of flags spells are its entries. -/
theorem bitsToNat_toList_testBit {n : Nat} (v : Vector Bool n) (i : Fin n) :
    (bitsToNat v.toList).testBit i.val = v.get i := by
  rw [bitsToNat_testBit, List.getD_eq_getElem _ _ (by simp)]
  simp [Vector.get]

theorem bitsToNat_toList_lt {n : Nat} (v : Vector Bool n) : bitsToNat v.toList < 2 ^ n := by
  have := bitsToNat_lt v.toList
  rwa [Vector.length_toList] at this

/-- The bits that a function of a position spells are its values. -/
theorem bitsToNat_map_testBit {n : Nat} (f : Fin n → Bool) (i : Fin n) :
    (bitsToNat ((List.finRange n).map f)).testBit i.val = f i := by
  rw [bitsToNat_testBit, List.getD_eq_getElem _ _ (by simp)]
  simp

theorem bitsToNat_map_lt {n : Nat} (f : Fin n → Bool) : bitsToNat ((List.finRange n).map f) < 2 ^ n := by
  have := bitsToNat_lt ((List.finRange n).map f)
  rwa [List.length_map, List.length_finRange] at this

/-- The number that two-bit codes spell, one for each position, lowest first (Table 39). -/
def codeSum {n : Nat} (f : Fin n → Nat) : Nat := ((List.finRange n).map fun i => f i * 4 ^ i.val).sum

theorem codeSum_succ {n : Nat} (f : Fin (n + 1) → Nat) : codeSum f = f 0 + 4 * codeSum fun i => f i.succ := by
  have shifted : (fun i : Fin n => f i.succ * 4 ^ i.succ.val) = fun i => 4 * (f i.succ * 4 ^ i.val) := by
    funext i
    rw [Fin.val_succ, Nat.pow_succ]
    ring
  unfold codeSum
  rw [List.finRange_succ, List.map_cons, List.map_map, List.sum_cons, Function.comp_def, shifted, List.sum_map_mul_left]
  simp

theorem codeSum_lt {n : Nat} (f : Fin n → Nat) (small : ∀ i, f i < 4) : codeSum f < 4 ^ n := by
  induction n with
  | zero => exact Nat.one_pos
  | succ n ih =>
    have low := small 0
    have rest := ih (fun i => f i.succ) fun i => small i.succ
    rw [codeSum_succ, Nat.pow_succ]
    omega

/-- Each code is read back from its two bits. -/
theorem codeSum_digit {n : Nat} (f : Fin n → Nat) (small : ∀ i, f i < 4) (i : Fin n) : codeSum f / 4 ^ i.val % 4 = f i := by
  induction n with
  | zero => exact i.elim0
  | succ n ih =>
    have low := small 0
    rw [codeSum_succ]
    cases i using Fin.cases with
    | zero => rw [Fin.val_zero, Nat.pow_zero, Nat.div_one]; omega
    | succ i =>
      have upper : (f 0 + 4 * codeSum fun i => f i.succ) / 4 = codeSum fun i => f i.succ := by omega
      rw [Fin.val_succ, Nat.pow_succ', ← Nat.div_div_eq_div_mul, upper]
      exact ih (fun i => f i.succ) (fun i => small i.succ) i

/-! ## The fields of each word (Table 39) -/

theorem State.deviceStatusWord_fields (s : State) :
    s.deviceStatusWord.toNat % 32 = 24 - (s.rules.toList.map fun r => r.contexts.length).sum ∧
    s.deviceStatusWord.getLsbD 5 = s.exhausted ∧ s.deviceStatusWord.toNat / 64 % 4 = 0 ∧
    s.deviceStatusWord.toNat / 256 = s.alarms.entries.length % 64 := by
  have free : s.freeContexts ≤ 24 := Nat.sub_le _ _
  have exhausted := Bool.toNat_lt s.exhausted
  have spelled := toWord_toNat (n := s.freeContexts + 32 * s.exhausted.toNat + 256 * (s.alarms.entries.length % 64))
    (by omega)
  change s.deviceStatusWord.toNat = _ at spelled
  have count : s.freeContexts = 24 - (s.rules.toList.map fun r => r.contexts.length).sum := rfl
  refine ⟨?_, getLsbD_of_field ?_, ?_, ?_⟩ <;> omega

/-- A valid address fits its fields (Tables 39 and 42, R194). -/
theorem PortAddress.valid_bounds {p : PortAddress} (h : p.valid = true) :
    p.select ≤ 8 ∧ p.index < 32 ∧ p.offset < 16 := by
  unfold PortAddress.valid tableShape at h
  split at h
  · cases h
  · next entries words shape =>
    simp only [Bool.and_eq_true, decide_eq_true_eq] at h
    split at shape <;> cases shape <;> omega

theorem PortAddress.word_fields {p : PortAddress} (h : p.valid = true) :
    p.word.toNat % 16 = p.offset ∧ p.word.toNat / 16 % 256 = p.index ∧ p.word.toNat / 4096 = p.select := by
  obtain ⟨select, index, offset⟩ := PortAddress.valid_bounds h
  have spelled := toWord_toNat (n := p.offset + 16 * p.index + 4096 * p.select) (by omega)
  change p.word.toNat = _ at spelled
  refine ⟨?_, ?_, ?_⟩ <;> omega

/-- A policy's bit says WRAP. -/
theorem Policy.code_eq_toNat (p : Policy) : p.code = (decide (p = .wrap)).toNat := by cases p <;> rfl

theorem Store.controlWord_fields (st : Store) :
    st.controlWord.getLsbD 0 = decide (st.policy = .wrap) ∧ st.controlWord.getLsbD 1 = st.loss.isSome ∧
    st.controlWord.getLsbD 2 = decide (st.records = []) ∧ st.controlWord.toNat / 8 = 0 := by
  have policy := Policy.code_eq_toNat st.policy
  have wrap := Bool.toNat_lt (decide (st.policy = .wrap))
  have loss := Bool.toNat_lt st.loss.isSome
  have empty := Bool.toNat_lt st.records.isEmpty
  have same : st.records.isEmpty = decide (st.records = []) := by cases st.records <;> rfl
  have spelled := toWord_toNat (n := st.policy.code + 2 * st.loss.isSome.toNat + 4 * st.records.isEmpty.toNat) (by omega)
  change st.controlWord.toNat = _ at spelled
  rw [← same]
  refine ⟨getLsbD_of_field ?_, getLsbD_of_field ?_, getLsbD_of_field ?_, ?_⟩ <;> omega

theorem Channel.statusWord_fields (c : Channel) :
    c.statusWord.getLsbD 0 = c.enabled ∧ c.statusWord.getLsbD 1 = decide (c.unread = 0) ∧
    c.statusWord.getLsbD 2 = c.holdoffTimer.isSome ∧ c.statusWord.getLsbD 3 = c.torn ∧
    c.statusWord.getLsbD 4 = c.emptyRead ∧ c.statusWord.toNat / 32 % 8 = 0 ∧ c.statusWord.toNat / 256 = c.offset % 16 := by
  have enabled := Bool.toNat_lt c.enabled
  have atEnd := Bool.toNat_lt (decide (c.unread = 0))
  have timer := Bool.toNat_lt c.holdoffTimer.isSome
  have torn := Bool.toNat_lt c.torn
  have emptyRead := Bool.toNat_lt c.emptyRead
  have spelled := toWord_toNat (n := c.enabled.toNat + 2 * (decide (c.unread = 0)).toNat +
    4 * c.holdoffTimer.isSome.toNat + 8 * c.torn.toNat + 16 * c.emptyRead.toNat + 256 * (c.offset % 16)) (by omega)
  change c.statusWord.toNat = _ at spelled
  refine ⟨getLsbD_of_field ?_, getLsbD_of_field ?_, getLsbD_of_field ?_, getLsbD_of_field ?_, getLsbD_of_field ?_, ?_,
    ?_⟩ <;> omega

theorem AlarmList.summaryWord_fields (a : AlarmList) :
    (∀ k : Fin 4, a.summaryWord.toNat / 4 ^ k.val % 4 = (a.summaries.get k).lamp.code ∧
      a.summaryWord.getLsbD (8 + k.val) = (a.summaries.get k).horn) ∧
    a.summaryWord.toNat / 4096 % 8 = 0 ∧ a.summaryWord.getLsbD 15 = a.ackRecording := by
  have lamps := codeSum_lt (fun k => (a.summaries.get k).lamp.code) fun k => Lamp.code_lt _
  have lamp := codeSum_digit (fun k => (a.summaries.get k).lamp.code) fun k => Lamp.code_lt _
  have horns := bitsToNat_map_lt fun k => (a.summaries.get k).horn
  have horn := bitsToNat_map_testBit fun k => (a.summaries.get k).horn
  have recording := Bool.toNat_lt a.ackRecording
  have spelled := toWord_toNat (n := codeSum (fun k => (a.summaries.get k).lamp.code) +
    256 * bitsToNat ((List.finRange 4).map fun k => (a.summaries.get k).horn) + 32768 * a.ackRecording.toNat) (by omega)
  change a.summaryWord.toNat = _ at spelled
  refine ⟨fun k => ⟨?_, ?_⟩, ?_, getLsbD_of_field ?_⟩
  · rw [← lamp k, spelled]
    fin_cases k <;> dsimp only <;> omega
  · have isWord : a.summaryWord = toWord (codeSum (fun k => (a.summaries.get k).lamp.code) +
        2 ^ 8 * (2 ^ 7 * a.ackRecording.toNat + bitsToNat ((List.finRange 4).map fun k => (a.summaries.get k).horn))) := by
      apply BitVec.eq_of_toNat_eq
      rw [spelled, toWord_toNat (by omega)]
      omega
    have k_lt := k.isLt
    rw [isWord, toWord_getLsbD_high (by omega) (by omega), Nat.testBit_two_pow_mul_add _ (by omega), if_pos (by omega), horn]
  · omega
  · omega

theorem OutputUnit.levelsWord_fields (u : OutputUnit) :
    (∀ q : OutputId, u.levelsWord.getLsbD q.val = u.computed q) ∧ u.levelsWord.toNat < 256 := by
  have small := bitsToNat_map_lt u.computed
  refine ⟨fun q => ?_, ?_⟩
  · rw [OutputUnit.levelsWord, toWord, BitVec.getLsbD_ofNat, bitsToNat_map_testBit]
    simp [Nat.lt_trans q.isLt (by decide : 8 < 16)]
  · rw [OutputUnit.levelsWord, toWord_toNat (by omega)]
    exact small

theorem ChannelCauses.word_fields (c : ChannelCauses) (i : Fin 4) :
    c.word.getLsbD i.val = c.flags.get i ∧ c.word.getLsbD (8 + i.val) = c.enables.get i ∧
    c.word.getLsbD (4 + i.val) = false ∧ c.word.getLsbD (12 + i.val) = false := by
  have flags := bitsToNat_toList_lt c.flags
  have enables := bitsToNat_toList_lt c.enables
  have i_lt := i.isLt
  have isWord : c.word = toWord (bitsToNat c.flags.toList + 2 ^ 8 * bitsToNat c.enables.toList) := rfl
  have fits : bitsToNat c.flags.toList < 2 ^ 8 := Nat.lt_trans flags (by decide)
  rw [isWord]
  refine ⟨?_, ?_, ?_, ?_⟩
  · rw [toWord_getLsbD_low fits (by omega) (by omega), bitsToNat_toList_testBit]
  · rw [toWord_getLsbD_high fits (by omega), bitsToNat_toList_testBit]
  · rw [toWord_getLsbD_low fits (by omega) (by omega)]
    exact Nat.testBit_lt_two_pow (Nat.lt_of_lt_of_le flags (Nat.pow_le_pow_right (by decide) (by omega)))
  · rw [show 12 + i.val = 8 + (4 + i.val) by omega, toWord_getLsbD_high fits (by omega)]
    exact Nat.testBit_lt_two_pow (Nat.lt_of_lt_of_le enables (Nat.pow_le_pow_right (by decide) (by omega)))

theorem InterruptUnit.systemWord_fields (u : InterruptUnit) (h : Half) :
    (∀ i : Fin 6, (u.systemWord h).getLsbD i.val = u.system.get i) ∧ (u.systemWord h).toNat / 64 % 512 = 0 ∧
    (u.systemWord h).getLsbD 15 = u.asserted h := by
  have system := bitsToNat_toList_lt u.system
  have asserted := Bool.toNat_lt (u.asserted h)
  have spelled := toWord_toNat (n := bitsToNat u.system.toList + 32768 * (u.asserted h).toNat) (by omega)
  change (u.systemWord h).toNat = _ at spelled
  refine ⟨fun i => ?_, ?_, getLsbD_of_field ?_⟩
  · have isWord : u.systemWord h = toWord (bitsToNat u.system.toList + 2 ^ 15 * (u.asserted h).toNat) := rfl
    have := i.isLt
    rw [isWord, toWord_getLsbD_low (by omega) (by omega) (by omega), bitsToNat_toList_testBit]
  · omega
  · omega

theorem InterruptUnit.routesWord_fields (u : InterruptUnit) :
    (∀ i : Fin 6, u.routesWord.toNat / 4 ^ i.val % 4 = (u.routes.get i).code) ∧ u.routesWord.toNat / 4096 = 0 := by
  have routes := codeSum_lt (fun i => (u.routes.get i).code) fun i => Route.code_lt _
  have spelled := toWord_toNat (Nat.lt_trans routes (by decide))
  change u.routesWord.toNat = _ at spelled
  rw [spelled]
  exact ⟨codeSum_digit _ fun i => Route.code_lt _, Nat.div_eq_of_lt routes⟩

/-! ## The words of a channel (Tables 38 and 39) -/

section
variable {s : State} {h : Half}

theorem channelDataWord_none (none_ : (s.channels.get h).enabled = false ∨ s.cursorRecord h = none) :
    s.channelDataWord h = 0 := by
  have nothing : s.deliverable h = none := by
    unfold State.deliverable
    obtain off | atEnd := none_
    · rw [off]; rfl
    · rw [atEnd, ite_self]
  rw [State.channelDataWord, nothing]

theorem channelDataWord_some {r : Record} (on : (s.channels.get h).enabled = true) (at_ : s.cursorRecord h = some r) :
    s.channelDataWord h = r.words.getD (s.channels.get h).offset 0 := by
  have delivers : s.deliverable h = some r := by
    unfold State.deliverable
    rw [if_pos on, at_]
  rw [State.channelDataWord, delivers]

theorem cursorWord_eq (s : State) (h : Half) : s.cursorWord h = ((s.cursorRecord h).map Record.number).getD 0 := by
  unfold State.cursorWord
  cases s.cursorRecord h <;> rfl

end

/-! ## The writes (R26, R32, R79, R140, R154, R186) -/

section
variable {s : State} (running : s.inReset = false) (v : Word)
include running

theorem exec_registerWrite_running (w : WordId) : exec (.registerWrite w v) s = .next (writeWord w v s) := by
  rw [exec_registerWrite rfl, live_running _ running]

/-- STORE CONTROL takes the policy alone (R79). -/
theorem exec_storeControlWrite : exec (.storeControlWrite v) s =
    .next { s with store := { s.store with policy := if v.getLsbD 0 then .wrap else .hold } } := by
  refine (congrArg Host.Outcome.next (live_running _ running)).trans ?_
  rw [writeStoreControl, bit_eq_getLsbD]

/-- OUTPUT DATA takes its eight positions (R154). -/
theorem exec_outputDataWrite : exec (.outputDataWrite v) s =
    .next { s with outputs := { s.outputs with data := v.extractLsb' 0 8 } } := by
  refine (congrArg Host.Outcome.next (live_running _ running)).trans ?_
  rw [writeOutputData, BitVec.setWidth_eq_extractLsb' (by decide)]

/-- ALARM SUMMARY takes the ACK recording control (R140). -/
theorem exec_alarmSummaryWrite : exec (.registerWrite 18 v) s =
    .next { s with alarms := { s.alarms with ackRecording := v.getLsbD 15 } } := by
  rw [exec_registerWrite_running running, ← bit_eq_getLsbD]
  rfl

/-- A write to a read-only, mirrored or unassigned word is ignored (R182, R184). -/
theorem exec_registerWrite_ignored {w : WordId} (wf : (Instr.registerWrite w v).wf = true)
    (apart : w ∉ ([2, 3, 34, 35, 15, 16, 17, 18] : List WordId)) : exec (.registerWrite w v) s = .next s := by
  have own : wordsWithOwnRow.contains w = false := by simpa [Instr.wf] using wf
  rw [exec_registerWrite_running running, writeWord_ignored (mem_ignoredWords w own apart)]

end

/-- Settles O59: the writes word by word, then the window under reset, then each word by its fields. -/
theorem directWritesReachTheirWord : Obligations.DirectWritesReachTheirWord := by
  refine ⟨fun v s running => ?_, fun s w held => if_pos held, fun s h w c running cIs wIs => ?_, by decide⟩
  · have written := exec_registerWrite_running running v
    exact ⟨exec_storeControlWrite running v, exec_outputDataWrite running v, written 2, written 3, written 34, written 35,
      written 15, written 16, written 17, exec_alarmSummaryWrite running v,
      fun w => exec_registerWrite_ignored running v⟩
  · have reads := windowReads running wIs
    subst cIs
    obtain ⟨enable, between, quality⟩ := s.timeControlWord_fields h
    obtain ⟨summaries, spare, recording⟩ := s.alarms.summaryWord_fields
    obtain ⟨levels, few⟩ := s.outputs.levelsWord_fields
    obtain ⟨system, gap, asserted⟩ := s.irq.systemWord_fields h
    obtain ⟨routes, top⟩ := s.irq.routesWord_fields
    rw [reads.deviceStatus, reads.address, reads.tableStatus, reads.storeControl, reads.free, reads.timeControl,
      reads.summary, reads.outputData, reads.levels, reads.channelData, reads.channelStatus, reads.cursor, reads.channelCauses,
      reads.systemCauses, reads.routes]
    refine ⟨reads.identity, s.deviceStatusWord_fields, reads.arg0, reads.arg1, reads.cmd, reads.result,
      PortAddress.word_fields, reads.tableData, fun archive => if_neg (by rw [archive]; decide), fun control none_ => ?_,
      fun k control some_ => ?_, s.store.controlWord_fields, toWord_toNat (Nat.lt_of_le_of_lt (Nat.sub_le _ _) (by decide)),
      reads.timeHigh, reads.timeMiddle, reads.timeLow, ⟨enable, between, quality⟩, reads.tolerance, reads.stepLimit,
      reads.setHigh, summaries, spare, recording, fun q => ⟨?_, levels q⟩, ?_, few, channelDataWord_none,
      fun r => channelDataWord_some, (s.channels.get h).statusWord_fields, cursorWord_eq s h, reads.unread, reads.missed,
      reads.threshold, reads.holdoff, (s.irq.channel.get h).word_fields, fun i => ⟨system i, routes i⟩, gap, asserted, top,
      reads.last⟩
    · rw [if_pos control, tableStatusWord_none none_]
    · rw [if_pos control, tableStatusWord_some some_]
    · rw [BitVec.getLsbD_setWidth]
      simp [Nat.lt_trans q.isLt (by decide : 8 < 16)]
    · rw [BitVec.toNat_setWidth_of_le (by decide)]
      exact s.outputs.data.isLt

end Sys2Proof.Machine

/-! PROOFS. GroupLaws: what a departure, a resolution and a reset make of a group, and the candidates counted (O36, O37). -/
namespace Sys2Proof.Machine

/-! ## A departure at its group (R49, R50, R53) -/

section
variable {g : GroupId} {c : Candidate} {s : State}

/-- In CLEAR with a window a departure opens the resolution (R49). -/
theorem groupDeparture_opens (clear : (s.groups.get g).phase = .clear) (wide : (s.groups.get g).window ≠ 0) :
    groupDeparture g c s = s.setGroup g { s.groups.get g with
      phase := .resolving, candidates := [c], timer := some (s.inMillis (s.groups.get g).window.toNat) } := by
  unfold groupDeparture
  dsimp only
  rw [clear]
  dsimp only
  rw [if_neg wide, if_neg wide]

/-- In CLEAR with window 0 it is resolved on at once (R49). -/
theorem groupDeparture_atOnce (clear : (s.groups.get g).phase = .clear) (zero : (s.groups.get g).window = 0) :
    groupDeparture g c s = resolveGroup g false (s.setGroup g { s.groups.get g with
      phase := .resolving, candidates := [c], timer := none }) := by
  unfold groupDeparture
  dsimp only
  rw [clear]
  dsimp only
  rw [if_pos zero, if_pos zero]

/-- In RESOLVING a line with no candidate yet joins (R50). -/
theorem groupDeparture_joins (resolving : (s.groups.get g).phase = .resolving)
    (new : ∀ d ∈ (s.groups.get g).candidates, d.line ≠ c.line) :
    groupDeparture g c s = s.setGroup g { s.groups.get g with candidates := (s.groups.get g).candidates ++ [c] } := by
  unfold groupDeparture
  dsimp only
  rw [resolving]
  exact if_neg (by simpa using new)

/-- In RESOLVING a candidate's line changes nothing (R50). -/
theorem groupDeparture_again (resolving : (s.groups.get g).phase = .resolving)
    (held : ∃ d ∈ (s.groups.get g).candidates, d.line = c.line) : groupDeparture g c s = s := by
  unfold groupDeparture
  dsimp only
  rw [resolving]
  exact if_pos (by simpa using held)

/-- In TRIPPED it is a consequent (R53). -/
theorem groupDeparture_follows (tripped : (s.groups.get g).phase = .tripped) : groupDeparture g c s =
    s.setGroup g { s.groups.get g with consequents := satInc (s.groups.get g).consequents } := by
  unfold groupDeparture
  dsimp only
  rw [tripped]

end

/-! ## A resolution (R51, R52) -/

/-- A GROUP TRIP record is at most 9 words long (Table 46). -/
theorem Body.len_groupTrip (g : GroupId) (d : Bool) (f : LineId) (n : Nat) (m : LineMask) (ref : Option Word) :
    (Body.groupTrip g d f n m ref).len ≤ 9 := by
  cases ref <;> simp [Body.len, Body.words, maskWords]

section
variable {g : GroupId} {d : Bool} {s : State} {f : Candidate}

/-- The group trips, its GROUP TRIP record is appended, and the cause is set (R51, R52). -/
theorem resolveGroup_trips (first : firstOutOf (s.groups.get g).candidates = some f) : resolveGroup g d s =
    raise .groupTrip (report f.stamp f.test
      (.groupTrip g d f.line (s.groups.get g).candidates.length ((s.groups.get g).resolvedOn d f).coincident f.ref)
      (s.setGroup g ((s.groups.get g).resolvedOn d f))) := by
  unfold resolveGroup
  dsimp only
  rw [first]
  rfl

theorem resolveGroup_group (first : firstOutOf (s.groups.get g).candidates = some f) :
    (resolveGroup g d s).groups.get g = (s.groups.get g).resolvedOn d f := by
  rw [resolveGroup_trips first, raise_groups, (report_onlyReports _ _ _ _).groups, setGroup_groups, get_put_same]

theorem resolveGroup_cause (first : firstOutOf (s.groups.get g).candidates = some f) :
    (resolveGroup g d s).causeSet .groupTrip = true := by
  rw [resolveGroup_trips first]
  exact raise_sets _ _

theorem resolveGroup_records (first : firstOutOf (s.groups.get g).candidates = some f) (whole : s.store.loss = none)
    (room : 14 ≤ s.store.free) : (resolveGroup g d s).store.records = s.store.records ++ [⟨s.store.next, f.stamp, f.test,
      .groupTrip g d f.line (s.groups.get g).candidates.length ((s.groups.get g).resolvedOn d f).coincident f.ref⟩] := by
  rw [resolveGroup_trips first, raise_store]
  exact append_fits_records whole (Nat.le_trans (Nat.add_le_add_right (Body.len_groupTrip ..) 5) room)

end

/-! ## Candidates counted by their edges (R51, R53) -/

theorem mem_coincidentWith {f c : Candidate} {cs : List Candidate} :
    c ∈ coincidentWith f cs ↔ c ∈ cs ∧ c.stamp.time = f.stamp.time ∧ c.line ≠ f.line := by simp [coincidentWith]

/-- The coincident mask holds the lines of the other candidates at the first-out's edge (R51). -/
theorem resolvedOn_coincident (x : FirstOutGroup) (d : Bool) (f : Candidate) (l : LineId) :
    (x.resolvedOn d f).coincident.getLsbD l.val = true ↔
      ∃ c ∈ x.candidates, c.line = l ∧ c.line ≠ f.line ∧ c.stamp.time = f.stamp.time := by
  show (maskOf fun k => (coincidentWith f x.candidates).any fun c => c.line = k).getLsbD l.val = true ↔ _
  rw [maskOf_getLsbD, List.any_eq_true]
  constructor
  · rintro ⟨c, tied, on⟩
    obtain ⟨inside, same, apart⟩ := mem_coincidentWith.mp tied
    exact ⟨c, inside, of_decide_eq_true on, apart, same⟩
  · rintro ⟨c, inside, on, apart, same⟩
    exact ⟨c, mem_coincidentWith.mpr ⟨inside, same, apart⟩, decide_eq_true on⟩

section
variable {f : Candidate} {cs : List Candidate} (once : (cs.map Candidate.line).Nodup) (inside : f ∈ cs)
include once

/-- There are no more candidates than lines. -/
theorem candidates_length_le : cs.length ≤ 32 := by
  simpa using once.length_le_card

include inside

/-- All candidates but the first-out are on other lines. -/
theorem candidates_length_others : cs.length = 1 + (cs.filter fun c => decide (c.line ≠ f.line)).length := by
  have own : cs.countP (fun c => decide (c.line = f.line)) = 1 := by
    have counted := List.count_eq_one_of_mem once (List.mem_map_of_mem inside)
    rw [List.count, List.countP_map] at counted
    rw [← counted]
    exact List.countP_congr fun c _ => by simp
  rw [List.length_eq_countP_add_countP (fun c => decide (c.line = f.line)), own, ← List.countP_eq_length_filter]
  simp

/-- The candidates are the first-out, those coincident with it, and the later ones. -/
theorem candidates_length (least : ∀ c ∈ cs, f.before c) : cs.length =
    1 + (coincidentWith f cs).length + (cs.filter fun c => decide (f.stamp.time < c.stamp.time)).length := by
  have later : ∀ c ∈ cs, (decide (f.stamp.time < c.stamp.time) && decide (c.line ≠ f.line)) =
      decide (f.stamp.time < c.stamp.time) := fun c mem => by
    by_cases own : c.line = f.line
    · rw [List.inj_on_of_nodup_map once mem inside own]
      simp
    · simp [own]
  have tied : ∀ c ∈ cs, (!decide (f.stamp.time < c.stamp.time) && decide (c.line ≠ f.line)) =
      (decide (c.stamp.time = f.stamp.time) && decide (c.line ≠ f.line)) := fun c mem => by
    rcases least c mem with sooner | ⟨same, -⟩
    · have apart : c.stamp.time ≠ f.stamp.time := fun e => absurd sooner (by rw [e]; exact BitVec.lt_irrefl _)
      simp [sooner, apart]
    · simp [same]
  rw [candidates_length_others once inside,
    List.length_eq_length_filter_add (l := cs.filter _) fun c => decide (f.stamp.time < c.stamp.time),
    List.filter_filter, List.filter_filter, List.filter_congr later, List.filter_congr tied, coincidentWith]
  omega

/-- The consequents at a resolution are the candidates after the first-out's edge (R51, R53). -/
theorem resolvedOn_consequents {x : FirstOutGroup} (is : x.candidates = cs) (d : Bool) (least : ∀ c ∈ cs, f.before c) :
    (x.resolvedOn d f).consequents.toNat = (cs.filter fun c => decide (f.stamp.time < c.stamp.time)).length := by
  have parts := candidates_length once inside least
  have few := candidates_length_le once
  subst is
  show (toWord (x.candidates.length - 1 - (coincidentWith f x.candidates).length)).toNat = _
  rw [toWord_toNat (by omega)]
  omega

end

/-- The resolution timer's expiry resolves a resolving group (R51, log 3). -/
theorem exec_resolutionTimerExpiry {g : GroupId} {s : State} (running : s.inReset = false) (clock : s.clockRunning = true)
    (resolving : (s.groups.get g).phase = .resolving) (timer : (s.groups.get g).timer.isSome = true) :
    exec (.resolutionTimerExpiry g) s = .next (resolveGroup g false s) := by
  show execResolutionTimerExpiry g s = _
  unfold execResolutionTimerExpiry
  dsimp only
  rw [timed_running _ running clock, if_pos ⟨resolving, timer⟩]

/-- Settles O36: the group resolves on the candidate that is before every other, and the rest divide by their edges. -/
theorem resolutionFindsTheFirstOut : Obligations.ResolutionFindsTheFirstOut := by
  rintro g s x running clock rfl resolving timer some_ once
  obtain ⟨f, inside, first, least⟩ := firstOutOf_spec some_
  have handled := resolveGroup_handled g false s
  refine ⟨resolveGroup g false s, f, exec_resolutionTimerExpiry running clock resolving timer, handled.events, handled.lines,
    inside, least, (resolveGroup_resolved g false s).others, ?_⟩
  rw [resolveGroup_group first]
  exact ⟨rfl, rfl, rfl, rfl, rfl, rfl, resolvedOn_coincident _ false f, resolvedOn_consequents once inside rfl false least,
    resolveGroup_cause first, resolveGroup_records first⟩

/-! ## GROUP RESET (R54) -/

section
variable {g : GroupId} {s : State}

theorem clearGroup_groups (g : GroupId) (s : State) :
    (clearGroup g s).groups = put s.groups g (FirstOutGroup.cleared (s.groups.get g).window) := by
  unfold clearGroup
  dsimp only
  rw [setGroup_groups, (report_onlyReports _ _ _ _).groups]

/-- Beside the group, GROUP RESET changes only what its record does (R54). -/
theorem clearGroup_onlyReports (g : GroupId) (s : State) : OnlyReports s { clearGroup g s with groups := s.groups } :=
  { report_onlyReports s.now false (.groupClear g (s.groups.get g).consequents) s with groups := rfl }

theorem clearGroup_records (whole : s.store.loss = none) (room : 12 ≤ s.store.free) : (clearGroup g s).store.records =
    s.store.records ++ [⟨s.store.next, s.now, false, .groupClear g (s.groups.get g).consequents⟩] :=
  append_fits_records (body := .groupClear g (s.groups.get g).consequents) whole room

/-- GROUP RESET from the control half completes with what its group answers (R54, R186). -/
theorem exec_groupReset {c : ResultCode} {t : State} {result : Word} (running : s.inReset = false)
    (at_ : s.slots.control.arg0.toNat = g.val) (acted : groupReset g s = (c, t)) (word : resultWord c 0x08 = result) :
    exec (.groupReset .control) s = .next (t.setSlot .control (s.slots.control.answered 0x08 result)) := by
  refine command_next (h := .control) running ?_ word
  show withOperand (operand 8 s.slots.control.arg0) s _ = _
  rw [operand_inRange g at_, withOperand_some, acted]

theorem groupReset_clear (clear : (s.groups.get g).phase = .clear) : groupReset g s = (.noEffect, s) := by
  unfold groupReset
  rw [clear]

theorem groupReset_resolving (resolving : (s.groups.get g).phase = .resolving) : groupReset g s = (.wrongState, s) := by
  unfold groupReset
  rw [resolving]

theorem groupReset_tripped (tripped : (s.groups.get g).phase = .tripped) : groupReset g s = (.done, clearGroup g s) := by
  unfold groupReset
  rw [tripped]

end

/-- With window 0 a departure trips its group on itself (R49, R51). -/
theorem groupDeparture_atOnce_group {g : GroupId} {c : Candidate} {s : State} (clear : (s.groups.get g).phase = .clear)
    (zero : (s.groups.get g).window = 0) : ((groupDeparture g c s).groups.get g).phase = .tripped ∧
      ((groupDeparture g c s).groups.get g).firstOut = some ⟨c.line, c.stamp, c.ref⟩ := by
  rw [groupDeparture_atOnce clear zero, resolveGroup_group (f := c) (by rw [setGroup_groups, get_put_same]; rfl)]
  exact ⟨rfl, rfl⟩

/-- Settles O37: the departure by the group's state, then GROUP RESET by it. -/
theorem groupTakesDeparturesAndReset : Obligations.GroupTakesDeparturesAndReset := by
  refine ⟨?_, fun g s running at_ => ⟨fun tripped => ?_, fun clear => ?_, fun resolving => ?_⟩⟩
  · rintro g c s x rfl
    exact ⟨groupDeparture_opens, groupDeparture_atOnce_group, groupDeparture_joins, groupDeparture_again,
      groupDeparture_follows⟩
  · exact ⟨clearGroup g s, exec_groupReset running at_ (groupReset_tripped tripped) (by decide), clearGroup_groups g s,
      clearGroup_onlyReports g s, clearGroup_records⟩
  · exact exec_groupReset running at_ (groupReset_clear clear) (by decide)
  · exact exec_groupReset running at_ (groupReset_resolving resolving) (by decide)

end Sys2Proof.Machine

/-! PROOFS. BlockFrames: which blocks the Alarm List, the engine, the channels and the Time Base leave alone. -/
namespace Sys2Proof.Machine

/-! ## The Alarm List changes itself, what the outputs are handed, and ALARM NEW -/

theorem OnlyAlarms.trans {s t u : State} (a : OnlyAlarms s t) (b : OnlyAlarms t u) : OnlyAlarms s u where
  store := b.store.trans a.store
  channels := b.channels.trans a.channels
  flags := b.flags.trans a.flags
  groups := b.groups.trans a.groups
  rules := b.rules.trans a.rules
  exhausted := b.exhausted.trans a.exhausted
  outputs := b.outputs.trans a.outputs
  causes c ne := (b.causes c ne).trans (a.causes c ne)

theorem setEntries_onlyAlarms (s : State) (es : List AlarmEntry) : OnlyAlarms s (s.setEntries es) :=
  ⟨rfl, rfl, rfl, rfl, rfl, rfl, rfl, fun _ _ => rfl⟩

theorem handSummaries_onlyAlarms (s : State) : OnlyAlarms s (handSummaries s) :=
  ⟨rfl, rfl, rfl, rfl, rfl, rfl, rfl, fun _ _ => rfl⟩

theorem setEntries_handed_onlyAlarms (s : State) (es : List AlarmEntry) : OnlyAlarms s (handSummaries (s.setEntries es)) :=
  (setEntries_onlyAlarms s es).trans (handSummaries_onlyAlarms _)

/-- A departure in any list (R132); `alarmDeparture_onlyAlarms` has the list in which every entry is in ALERT. -/
theorem alarmDeparture_apart (ev : AlarmEvent) (s : State) : OnlyAlarms s (alarmDeparture ev s) := by
  unfold alarmDeparture
  split
  · exact createEntry_onlyAlarms ev false s
  · split
    · exact setEntries_handed_onlyAlarms s _
    · exact OnlyAlarms.refl s
    · exact OnlyAlarms.refl s

theorem alarmReturn_onlyAlarms (l : LineId) (s : State) : OnlyAlarms s (alarmReturn l s) := by
  unfold alarmReturn
  split
  · exact OnlyAlarms.refl s
  · split
    · exact setEntries_handed_onlyAlarms s _
    · exact setEntries_handed_onlyAlarms s _
    · exact OnlyAlarms.refl s

theorem alarmChatterOn_onlyAlarms (ev : AlarmEvent) (s : State) : OnlyAlarms s (alarmChatterOn ev s) := by
  unfold alarmChatterOn
  split
  · exact createEntry_onlyAlarms ev true s
  · exact setEntries_onlyAlarms s _

theorem alarmChatterOff_onlyAlarms (ev : AlarmEvent) (b : Bool) (s : State) : OnlyAlarms s (alarmChatterOff ev b s) := by
  unfold alarmChatterOff
  dsimp only
  split
  · exact (setEntries_onlyAlarms s _).trans (alarmReturn_onlyAlarms _ _)
  · exact (setEntries_onlyAlarms s _).trans (alarmDeparture_apart _ _)

theorem alarmWithdraw_onlyAlarms (l : LineId) (s : State) : OnlyAlarms s (alarmWithdraw l s) := by
  unfold alarmWithdraw
  split
  · exact OnlyAlarms.refl s
  · exact setEntries_handed_onlyAlarms s _

/-! ## The engine and the outputs leave the groups and the Alarm List alone -/

/-- Neither the groups nor the Alarm List have changed. -/
structure OnlyEngine (s t : State) : Prop where
  groups : t.groups = s.groups
  alarms : t.alarms = s.alarms

theorem OnlyEngine.refl (s : State) : OnlyEngine s s := ⟨rfl, rfl⟩

theorem OnlyEngine.trans {s t u : State} (a : OnlyEngine s t) (b : OnlyEngine t u) : OnlyEngine s u :=
  ⟨b.groups.trans a.groups, b.alarms.trans a.alarms⟩

theorem setRule_onlyEngine (s : State) (r : RuleId) (x : CorrRule) : OnlyEngine s (s.setRule r x) := ⟨rfl, rfl⟩

theorem freeContext_onlyEngine (r : RuleId) (k : Nat) (s : State) : OnlyEngine s (freeContext r k s) := ⟨rfl, rfl⟩

theorem setFreeIndex_onlyEngine (s : State) (n : Nat) : OnlyEngine s { s with freeIndex := n } := ⟨rfl, rfl⟩

theorem OnlyReports.onlyEngine {s t : State} (a : OnlyReports s t) : OnlyEngine s t := ⟨a.groups, a.alarms⟩

theorem requestAction_onlyEngine (a : Option OutputId) (s : State) : OnlyEngine s (requestAction a s) := by
  cases a <;> exact ⟨rfl, rfl⟩

theorem lapse_onlyEngine (reason : LapseReason) (r : RuleId) (k : Nat) (s : State) : OnlyEngine s (lapse reason r k s) :=
  have kept := lapse_lapsed reason r k s
  ⟨kept.groups, kept.alarms⟩

theorem lapseOldest_onlyEngine (reason : LapseReason) (r : RuleId) (n : Nat) (s : State) :
    OnlyEngine s (lapseOldest reason r n s) := by
  induction n generalizing s with
  | zero => exact OnlyEngine.refl s
  | succ n ih => exact (lapse_onlyEngine reason r 0 s).trans (ih _)

theorem lapseAll_onlyEngine (items : List (RuleId × Nat)) (s : State) : OnlyEngine s (lapseAll items s) := by
  induction items generalizing s with
  | nil => exact OnlyEngine.refl s
  | cons item rest ih => exact (lapse_onlyEngine .window item.1 item.2 s).trans (ih _)

theorem complete_onlyEngine (r : RuleId) (k : Nat) (c : CorrContext) (stamp : Stamp) (s : State) :
    OnlyEngine s (complete r k c stamp s) := by
  have recorded := report_onlyReports stamp c.anyTest (.matched r (s.rules.get r).stepCount c.refs) s
  unfold complete
  dsimp only
  refine OnlyEngine.trans ?_ (freeContext_onlyEngine _ _ _)
  refine OnlyEngine.trans ?_ (requestAction_onlyEngine _ _)
  exact recorded.onlyEngine.trans (setRule_onlyEngine _ _ _)

theorem startContext_onlyEngine (r : RuleId) (ev : CorrEvent) (p : Fin 4) (s : State) :
    OnlyEngine s (startContext r ev p s) := by
  unfold startContext
  dsimp only
  split
  · exact ⟨rfl, rfl⟩
  · split
    · split <;> exact ⟨rfl, rfl⟩
    · exact ⟨rfl, rfl⟩

theorem visitRule_onlyEngine (ev : CorrEvent) (r : RuleId) (s : State) : OnlyEngine s (visitRule ev r s).1 := by
  unfold visitRule
  dsimp only
  split
  · exact OnlyEngine.refl s
  · split
    · split
      · exact OnlyEngine.refl s
      · split
        · refine OnlyEngine.trans ?_ (complete_onlyEngine _ _ _ _ _)
          exact setRule_onlyEngine _ _ _
        · exact setRule_onlyEngine _ _ _
    · split
      · exact OnlyEngine.refl s
      · exact startContext_onlyEngine _ _ _ _

theorem visitRules_onlyEngine (ev : CorrEvent) (rs : List RuleId) (s : State) : OnlyEngine s (visitRules ev rs s).1 := by
  induction rs generalizing s with
  | nil => exact OnlyEngine.refl s
  | cons r rs ih => exact (visitRule_onlyEngine ev r s).trans (ih _)

/-- An event at the engine (R111). -/
theorem correlate_onlyEngine (ev : CorrEvent) (s : State) : OnlyEngine s (correlate ev s) := by
  unfold correlate
  dsimp only
  refine OnlyEngine.trans (visitRules_onlyEngine ev (List.finRange 16) s) (OnlyEngine.trans ?_ (lapseAll_onlyEngine _ _))
  exact setFreeIndex_onlyEngine _ _

theorem disableRule_onlyEngine (r : RuleId) (s : State) : OnlyEngine s (disableRule r s) :=
  (lapseOldest_onlyEngine .disabled r _ s).trans ⟨rfl, rfl⟩

/-! ## The store, the channels and the Time Base leave the blocks that handle events alone -/

/-- The groups, the engine, the Alarm List and the outputs have not changed. -/
structure BlocksStand (s t : State) : Prop where
  groups : t.groups = s.groups
  rules : t.rules = s.rules
  exhausted : t.exhausted = s.exhausted
  alarms : t.alarms = s.alarms
  outputs : t.outputs = s.outputs

theorem BlocksStand.refl (s : State) : BlocksStand s s := ⟨rfl, rfl, rfl, rfl, rfl⟩

theorem BlocksStand.trans {s t u : State} (a : BlocksStand s t) (b : BlocksStand t u) : BlocksStand s u :=
  ⟨b.groups.trans a.groups, b.rules.trans a.rules, b.exhausted.trans a.exhausted, b.alarms.trans a.alarms,
    b.outputs.trans a.outputs⟩

/-- What came before left them too. -/
theorem BlocksStand.after {s t u : State} (b : BlocksStand t u) (a : BlocksStand s t) : BlocksStand s u := a.trans b

theorem OnlyReports.blocksStand {s t : State} (a : OnlyReports s t) : BlocksStand s t :=
  ⟨a.groups, a.rules, a.exhausted, a.alarms, a.outputs⟩

/-- Either of two states stands. -/
theorem BlocksStand.ite {s t u : State} {c : Prop} [Decidable c] (a : BlocksStand s t) (b : BlocksStand s u) :
    BlocksStand s (if c then t else u) := by
  split
  · exact a
  · exact b

theorem raiseChannel_blocksStand (h : Half) (c : ChannelCause) (s : State) : BlocksStand s (raiseChannel h c s) :=
  ⟨rfl, rfl, rfl, rfl, rfl⟩

theorem raise_blocksStand (c : SystemCause) (s : State) : BlocksStand s (raise c s) := ⟨rfl, rfl, rfl, rfl, rfl⟩

theorem setChannel_blocksStand (s : State) (h : Half) (x : Channel) : BlocksStand s (s.setChannel h x) :=
  ⟨rfl, rfl, rfl, rfl, rfl⟩

theorem setTime_blocksStand (s : State) (t : TimeBase) : BlocksStand s { s with time := t } := ⟨rfl, rfl, rfl, rfl, rfl⟩

theorem clearNotice_blocksStand (h : Half) (cause : Bool) (s : State) : BlocksStand s (clearNotice h cause s) :=
  BlocksStand.ite ((setChannel_blocksStand s h _).trans (raiseChannel_blocksStand h .torn _)) (setChannel_blocksStand s h _)

theorem clearStore_blocksStand (s : State) : BlocksStand s (clearStore s) := by
  refine BlocksStand.trans ?_ (report_onlyReports _ _ _ _).blocksStand
  refine BlocksStand.trans ?_ (clearNotice_blocksStand .archive true _)
  refine BlocksStand.trans ?_ (clearNotice_blocksStand .control true _)
  exact ⟨rfl, rfl, rfl, rfl, rfl⟩

theorem readChannelData_blocksStand (h : Half) (s : State) : BlocksStand s (readChannelData h s) := by
  unfold readChannelData
  cases s.deliverable h with
  | none => exact setChannel_blocksStand s h _
  | some r => exact BlocksStand.ite (setChannel_blocksStand s h _) (consume_onlyReports h s).blocksStand

theorem enableFromOldest_blocksStand (h : Half) (s : State) : BlocksStand s (enableFromOldest h s).2 := by
  unfold enableFromOldest
  dsimp only
  split
  · exact BlocksStand.refl s
  · exact (setChannel_blocksStand s h _).trans (readyRules_onlyReports h 0 _).blocksStand

theorem enableFromNext_blocksStand (h : Half) (s : State) : BlocksStand s (enableFromNext h s).2 := by
  unfold enableFromNext
  dsimp only
  split
  · exact BlocksStand.refl s
  · exact (setChannel_blocksStand s h _).trans (reclaim_onlyReports _).blocksStand

theorem disableChannel_blocksStand (h : Half) (s : State) : BlocksStand s (disableChannel h s).2 := by
  unfold disableChannel
  dsimp only
  split
  · exact (setChannel_blocksStand s h _).trans (reclaim_onlyReports _).blocksStand
  · exact BlocksStand.refl s

theorem skipRecord_blocksStand (h : Half) (s : State) : BlocksStand s (skipRecord h s).2 := by
  unfold skipRecord
  dsimp only
  split
  · exact BlocksStand.refl s
  · split
    · exact BlocksStand.refl s
    · exact (consume_onlyReports h s).blocksStand

theorem rereadRecord_blocksStand (h : Half) (s : State) : BlocksStand s (rereadRecord h s).2 := by
  unfold rereadRecord
  dsimp only
  split
  · exact BlocksStand.refl s
  · split
    · exact BlocksStand.refl s
    · exact setChannel_blocksStand s h _

theorem writeThreshold_blocksStand (h : Half) (v : Word) (s : State) : BlocksStand s (writeThreshold h v s) :=
  BlocksStand.ite (BlocksStand.refl s) (BlocksStand.ite
    ((setChannel_blocksStand s h _).trans (raiseChannel_blocksStand h .ready _)) (setChannel_blocksStand s h _))

theorem readyCleared_blocksStand (h : Half) (s : State) : BlocksStand s (readyCleared h s) :=
  BlocksStand.ite (BlocksStand.refl s) (BlocksStand.ite (setChannel_blocksStand s h _)
    (BlocksStand.ite (raiseChannel_blocksStand h .ready s) (BlocksStand.refl s)))

theorem writeChannelCauses_blocksStand (h : Half) (v : Word) (s : State) : BlocksStand s (writeChannelCauses h v s) :=
  BlocksStand.ite ((readyCleared_blocksStand h _).after ⟨rfl, rfl, rfl, rfl, rfl⟩) ⟨rfl, rfl, rfl, rfl, rfl⟩

theorem writePortAddress_blocksStand (h : Half) (v : Word) (s : State) : BlocksStand s (writePortAddress h v s) :=
  BlocksStand.ite ⟨rfl, rfl, rfl, rfl, rfl⟩ (BlocksStand.refl s)

theorem changeQuality_blocksStand (q : Quality) (s : State) : BlocksStand s (changeQuality q s) := by
  unfold changeQuality
  refine BlocksStand.ite (BlocksStand.refl s) (BlocksStand.trans ?_ (raise_blocksStand .timeQuality _))
  exact (report_onlyReports _ _ _ _).blocksStand.after (setTime_blocksStand s _)

theorem writeTimeControl_blocksStand (v : Word) (s : State) : BlocksStand s (writeTimeControl v s) :=
  BlocksStand.ite
    (BlocksStand.ite (BlocksStand.refl s) ((changeQuality_blocksStand _ _).after (setTime_blocksStand s _)))
    (BlocksStand.ite ((changeQuality_blocksStand _ _).after (setTime_blocksStand s _)) (BlocksStand.refl s))

theorem writeTolerance_blocksStand (v : Word) (s : State) : BlocksStand s (writeTolerance v s) :=
  BlocksStand.ite (BlocksStand.refl s) (setTime_blocksStand s _)

theorem writeStepLimit_blocksStand (v : Word) (s : State) : BlocksStand s (writeStepLimit v s) :=
  BlocksStand.ite (BlocksStand.refl s) (setTime_blocksStand s _)

theorem correctCounter_blocksStand (offset : Int) (s : State) : BlocksStand s (correctCounter offset s) :=
  BlocksStand.ite (setTime_blocksStand s _) (setTime_blocksStand s _)

/-- The end of supervision (R31). -/
theorem superviseEnds_blocksStand (s : State) : BlocksStand s
    (if s.time.quality = .locked then changeQuality .holdover { s with time := { s.time with supervision := none } }
      else { s with time := { s.time with supervision := none } }) :=
  BlocksStand.ite ((changeQuality_blocksStand _ _).after (setTime_blocksStand s _)) (setTime_blocksStand s _)

end Sys2Proof.Machine

/-! PROOFS. GroupsLegal: what a group holds agrees with its state, kept by every operation (Table 18), so by every step (O38). -/
namespace Sys2Proof.Machine

/-- Every group of a table is legal (Table 18). A structure, so that no elaboration runs the model to see the group's state. -/
structure GroupTableLegal (groups : Vector FirstOutGroup 8) : Prop where
  each : ∀ g, (groups.get g).legal

/-- Every group is legal (Table 18). -/
def State.groupsLegal (s : State) : Prop := GroupTableLegal s.groups

theorem State.groupsLegal_iff (s : State) : s.groupsLegal ↔ ∀ g, (s.groups.get g).legal :=
  ⟨GroupTableLegal.each, GroupTableLegal.mk⟩

/-- What leaves the groups alone keeps them legal. -/
theorem State.groupsLegal.of_groups {s t : State} (h : s.groupsLegal) (same : t.groups = s.groups) : t.groupsLegal := by
  unfold State.groupsLegal
  rw [same]
  exact h

theorem setLine_groupsLegal {s : State} (h : s.groupsLegal) (l : LineId) (x : LineState) : (s.setLine l x).groupsLegal :=
  h.of_groups (setLine_groups s l x)

/-! ## One group -/

section
variable {x : FirstOutGroup}

theorem FirstOutGroup.cleared_legal (window : Word) : (FirstOutGroup.cleared window).legal := rfl

/-- What a legal group holds in CLEAR (R48). -/
theorem FirstOutGroup.legal.of_clear (h : x.legal) (clear : x.phase = .clear) : x = FirstOutGroup.cleared x.window := by
  simpa only [FirstOutGroup.legal, clear] using h

/-- What it holds in RESOLVING (R49, R50). -/
theorem FirstOutGroup.legal.of_resolving (h : x.legal) (resolving : x.phase = .resolving) :
    x.candidates ≠ [] ∧ (x.candidates.map Candidate.line).Nodup ∧ x.timer.isSome = true ∧ x.firstOut = none := by
  simpa only [FirstOutGroup.legal, resolving] using h

/-- What it holds in TRIPPED (R51). -/
theorem FirstOutGroup.legal.of_tripped (h : x.legal) (tripped : x.phase = .tripped) :
    x.candidates = [] ∧ x.timer = none ∧ x.firstOut.isSome = true := by
  simpa only [FirstOutGroup.legal, tripped] using h

/-- A group that has opened its resolution (R49). -/
theorem FirstOutGroup.opened_legal (h : x.legal) (clear : x.phase = .clear) (c : Candidate) (expires : Nat) :
    { x with phase := .resolving, candidates := [c], timer := some expires }.legal := by
  refine ⟨List.cons_ne_nil _ _, List.nodup_singleton _, rfl, ?_⟩
  rw [h.of_clear clear]
  rfl

/-- A resolving group that a new line joins (R50). -/
theorem FirstOutGroup.joined_legal (h : x.legal) (resolving : x.phase = .resolving) {c : Candidate}
    (new : ∀ d ∈ x.candidates, d.line ≠ c.line) : { x with candidates := x.candidates ++ [c] }.legal := by
  obtain ⟨-, once, timer, noFirst⟩ := h.of_resolving resolving
  simp only [FirstOutGroup.legal, resolving]
  refine ⟨List.append_ne_nil_of_right_ne_nil _ (List.cons_ne_nil _ _), ?_, timer, noFirst⟩
  rw [List.map_append, List.nodup_append]
  refine ⟨once, List.nodup_singleton _, fun l old k added => ?_⟩
  obtain ⟨d, inside, rfl⟩ := List.mem_map.mp old
  rw [List.mem_singleton.mp added]
  exact new d inside

/-- A tripped group that counts another consequent (R53). -/
theorem FirstOutGroup.followed_legal (h : x.legal) (tripped : x.phase = .tripped) (n : Word) :
    { x with consequents := n }.legal := by
  simp only [FirstOutGroup.legal, tripped]
  exact h.of_tripped tripped

/-- A group that has tripped on a first-out (R51). -/
theorem FirstOutGroup.resolvedOn_legal (d : Bool) (f : Candidate) : (x.resolvedOn d f).legal := ⟨rfl, rfl, rfl⟩

/-- A group in CLEAR with another window written (R48, R57). -/
theorem FirstOutGroup.rewindowed_legal (h : x.legal) (clear : x.phase = .clear) (w : Word) : { x with window := w }.legal := by
  rw [h.of_clear clear]
  rfl

end

/-! ## The Group Unit -/

section
variable {s : State}

theorem setGroup_groupsLegal (h : s.groupsLegal) {g : GroupId} {x : FirstOutGroup} (own : x.legal) :
    (s.setGroup g x).groupsLegal := by
  refine (State.groupsLegal_iff _).mpr fun k => ?_
  rw [setGroup_groups]
  by_cases same : k = g
  · rw [same, get_put_same]; exact own
  · rw [get_put_other _ _ _ _ same]; exact h.each k

/-- A group that trips is legal, whatever it held; the others stand (R51). -/
theorem resolveGroup_trips_groupsLegal {g : GroupId} {f : Candidate} (d : Bool)
    (others : ∀ k, k ≠ g → (s.groups.get k).legal) (first : firstOutOf (s.groups.get g).candidates = some f) :
    (resolveGroup g d s).groupsLegal := by
  refine (State.groupsLegal_iff _).mpr fun k => ?_
  by_cases same : k = g
  · rw [same, resolveGroup_group first]
    exact FirstOutGroup.resolvedOn_legal d f
  · rw [(resolveGroup_resolved g d s).others k same]
    exact others k same

theorem resolveGroup_groupsLegal (h : s.groupsLegal) (g : GroupId) (d : Bool) : (resolveGroup g d s).groupsLegal := by
  cases first : firstOutOf (s.groups.get g).candidates with
  | none => rw [resolveGroup_none first]; exact h
  | some f => exact resolveGroup_trips_groupsLegal d (fun k _ => h.each k) first

theorem groupDeparture_groupsLegal (h : s.groupsLegal) (g : GroupId) (c : Candidate) : (groupDeparture g c s).groupsLegal := by
  cases phase : (s.groups.get g).phase with
  | clear =>
    by_cases zero : (s.groups.get g).window = 0
    · rw [groupDeparture_atOnce phase zero]
      refine resolveGroup_trips_groupsLegal (f := c) false (fun k ne => ?_) ?_
      · rw [setGroup_groups, get_put_other _ _ _ _ ne]
        exact h.each k
      · rw [setGroup_groups, get_put_same]
        rfl
    · rw [groupDeparture_opens phase zero]
      exact setGroup_groupsLegal h (FirstOutGroup.opened_legal (h.each g) phase c _)
  | resolving =>
    by_cases held : ∃ d ∈ (s.groups.get g).candidates, d.line = c.line
    · rw [groupDeparture_again phase held]; exact h
    · have new : ∀ d ∈ (s.groups.get g).candidates, d.line ≠ c.line := fun d inside is => held ⟨d, inside, is⟩
      rw [groupDeparture_joins phase new]
      exact setGroup_groupsLegal h (FirstOutGroup.joined_legal (h.each g) phase new)
  | tripped =>
    rw [groupDeparture_follows phase]
    exact setGroup_groupsLegal h (FirstOutGroup.followed_legal (h.each g) phase _)

theorem clearGroup_groupsLegal (h : s.groupsLegal) (g : GroupId) : (clearGroup g s).groupsLegal :=
  State.groupsLegal.of_groups (setGroup_groupsLegal h (FirstOutGroup.cleared_legal _)) (clearGroup_groups g s)

theorem noticeActions_groupsLegal (items : List (GroupId ⊕ RuleId)) (h : s.groupsLegal) :
    (noticeActions items s).groupsLegal := by
  induction items generalizing s with
  | nil => exact h
  | cons a rest ih =>
    cases a with
    | inl g => exact ih (resolveGroup_groupsLegal h g true)
    | inr r => exact ih (h.of_groups (lapse_lapsed .timeStep r 0 s).groups)

theorem discontinuityNotice_groupsLegal (h : s.groupsLegal) : (discontinuityNotice s).groupsLegal := by
  rw [discontinuityNotice_eq]
  exact noticeActions_groupsLegal _ (h.of_groups rfl)

end

/-! ## The Time Base -/

theorem stepCounter_eq (q : Quality) (offset : Int) (s : State) :
    stepCounter q offset s = discontinuityNotice (stepBegun q offset s) := rfl

theorem alignCounter_groupsLegal {s : State} (h : s.groupsLegal) (beyond : Quality) : (alignCounter beyond s).groupsLegal := by
  by_cases near : (pulseOffset s.time.counter).natAbs ≤ s.time.stepLimit.toNat
  · rw [alignCounter_within near]
    exact h.of_groups ((correctCounter_blocksStand _ s).trans (changeQuality_blocksStand _ _)).groups
  · rw [alignCounter_beyond (Nat.not_le.mp near), stepCounter_eq]
    exact discontinuityNotice_groupsLegal (h.of_groups (stepBegun_groups _ _ s))

theorem takePulse_groupsLegal {s : State} (h : s.groupsLegal) : (takePulse s).groupsLegal := by
  have aligned : ∀ beyond, (alignCounter beyond s.unheld).groupsLegal := alignCounter_groupsLegal (s := s.unheld) h
  unfold takePulse
  cases s.time.quality with
  | free => exact h
  | acquiring =>
    dsimp only
    split
    · exact aligned .locked
    · exact h
  | locked => exact aligned .acquiring
  | holdover => exact aligned .acquiring

theorem setCounter_groupsLegal {s : State} (h : s.groupsLegal) (v : Timestamp) : (setCounter v s).groupsLegal := by
  rw [setCounter_eq]
  refine discontinuityNotice_groupsLegal (h.of_groups ?_)
  rw [changeQuality_groups, (report_onlyReports _ _ _ _).groups]

/-! ## The Alarm List and the operators leave the groups alone -/

theorem ackRecord_groups (l : LineId) (r : AckResult) (test : Bool) (tag : Word) (side : Half) (s : State) :
    (ackRecord l r test tag side s).groups = s.groups := by
  unfold ackRecord
  split
  · exact (report_onlyReports _ _ _ _).groups
  · rfl

theorem ackEntry_groups (tag : Word) (side : Half) (l : LineId) (s : State) : (ackEntry tag side l s).2.groups = s.groups := by
  unfold ackEntry
  split
  · rfl
  · split
    · exact ackRecord_groups _ _ _ _ _ _
    · exact ackRecord_groups _ _ _ _ _ _
    · rfl

theorem ackEntries_groups (tag : Word) (side : Half) (ls : List LineId) (r : Bool × State) :
    (ackEntries tag side ls r).2.groups = r.2.groups := by
  induction ls generalizing r with
  | nil => rfl
  | cons l ls ih =>
    exact (ih (r.1 || (ackEntry tag side l r.2).1, (ackEntry tag side l r.2).2)).trans (ackEntry_groups tag side l r.2)

theorem acknowledged_groups (r : Bool × State) : (acknowledged r).2.groups = r.2.groups := by
  unfold acknowledged
  split <;> rfl

theorem silenceEntries_groups (side : Half) (s : State) : (silenceEntries side s).groups = s.groups :=
  (report_onlyReports s.now false _ _).groups

theorem escalate_groups (e : AlarmEntry) (s : State) : (escalate e s).groups = s.groups := by
  unfold escalate
  dsimp only
  rw [setEntries_groups, (requestAction_onlyEngine _ _).groups, raise_groups, (report_onlyReports _ _ _ _).groups]
  rfl

/-! ## The classifier hands a group its departures, and touches no group else -/

theorem recordChange_groups (wanted : Bool) (l : LineId) (d : Direction) (stamp : Stamp) (test : Bool) (s : State) :
    (recordChange wanted l d stamp test s).2.groups = s.groups := by
  cases wanted with
  | true => exact (append_onlyReports _ _ _ _).groups
  | false => rfl

theorem handGroup_groupsLegal {s : State} (h : s.groupsLegal) (g : Option GroupId) (c : Candidate) :
    (handGroup g c s).groupsLegal := by
  cases g with
  | none => exact h
  | some g => exact groupDeparture_groupsLegal h g c

theorem classifyDepart_groupsLegal {s : State} (h : s.groupsLegal) (l : LineId) (stamp : Stamp) (test : Bool) :
    (classifyDepart l stamp test s).groupsLegal := by
  rw [classifyDepart_eq]
  have recorded := h.of_groups (recordChange_groups (s.lineTable.get l).recordDepartures l .depart stamp test s)
  have grouped := handGroup_groupsLegal recorded (s.lineTable.get l).group
    ⟨l, stamp, test, (recordChange (s.lineTable.get l).recordDepartures l .depart stamp test s).1⟩
  refine grouped.of_groups ?_
  unfold routeDepart
  dsimp only
  rw [(requestAction_onlyEngine _ _).groups]
  split
  · exact (correlate_onlyEngine _ _).groups
  · rw [(alarmDeparture_apart _ _).groups, (correlate_onlyEngine _ _).groups]

theorem classifyReturn_groups (l : LineId) (stamp : Stamp) (test : Bool) (s : State) :
    (classifyReturn l stamp test s).groups = s.groups := by
  unfold classifyReturn
  dsimp only
  rw [(requestAction_onlyEngine _ _).groups]
  split
  · rw [(correlate_onlyEngine _ _).groups, recordChange_groups]
  · rw [(alarmReturn_onlyAlarms _ _).groups, (correlate_onlyEngine _ _).groups, recordChange_groups]

theorem classifyInitial_groups (l : LineId) (v : Level) (stamp : Stamp) (test : Bool) (s : State) :
    (classifyInitial l v stamp test s).groups = s.groups := by
  unfold classifyInitial
  dsimp only
  split
  · rw [(append_onlyReports _ _ _ _).groups]
  · rw [(alarmDeparture_apart _ _).groups, (append_onlyReports _ _ _ _).groups]

theorem classifyChatterOn_groups (l : LineId) (v : Level) (stamp : Stamp) (test : Bool) (s : State) :
    (classifyChatterOn l v stamp test s).groups = s.groups := by
  unfold classifyChatterOn
  dsimp only
  split
  · rw [raise_groups, (append_onlyReports _ _ _ _).groups]
  · rw [(alarmChatterOn_onlyAlarms _ _).groups, raise_groups, (append_onlyReports _ _ _ _).groups]

theorem classifyChatterOff_groups (l : LineId) (v : Level) (n : Word) (stamp : Stamp) (test : Bool) (s : State) :
    (classifyChatterOff l v n stamp test s).groups = s.groups := by
  unfold classifyChatterOff
  dsimp only
  split
  · rw [(append_onlyReports _ _ _ _).groups]
  · rw [(alarmChatterOff_onlyAlarms _ _ _).groups, (append_onlyReports _ _ _ _).groups]

theorem classifyDisarmed_groups (l : LineId) (stamp : Stamp) (test : Bool) (s : State) :
    (classifyDisarmed l stamp test s).groups = s.groups := by
  unfold classifyDisarmed
  dsimp only
  split
  · rw [(report_onlyReports _ _ _ _).groups]
  · rw [(alarmWithdraw_onlyAlarms _ _).groups, (report_onlyReports _ _ _ _).groups]

/-! ## The conditioner reaches a group by a DEPART alone -/

theorem countTransition_groups (l : LineId) (edge : Stamp) (s : State) : (countTransition l edge s).groups = s.groups := by
  unfold countTransition
  dsimp only
  split
  · rfl
  · split
    · rw [enterChatter_eq, classifyChatterOn_groups, setLine_groups]
    · rfl

theorem qualifySettling_groups (l : LineId) (s : State) : (qualifySettling l s).groups = s.groups := by
  rw [qualifySettling_eq, classifyInitial_groups, setLine_groups]

theorem qualifyReturn_groups (l : LineId) (s : State) : (qualifyReturn l s).groups = s.groups := by
  rw [qualifyReturn_eq, countTransition_groups, handReturn, classifyReturn_groups, setLine_groups]

theorem releaseLine_groups (l : LineId) (s : State) : (releaseLine l s).groups = s.groups := by
  rw [releaseLine_eq, classifyChatterOff_groups, setLine_groups]

theorem disarmArmed_groups (l : LineId) (s : State) : (disarmArmed l s).groups = s.groups :=
  classifyDisarmed_groups l s.now (s.lines.get l).injected.isSome s

theorem armDisarmed_groups (l : LineId) (s : State) : (armDisarmed l s).groups = s.groups := by
  unfold armDisarmed
  dsimp only
  split
  · rw [qualifySettling_groups, setLine_groups]
  · rfl

section
variable {s : State} (h : s.groupsLegal) (l : LineId)
include h

theorem qualifyDeparture_groupsLegal : (qualifyDeparture l s).groupsLegal := by
  rw [qualifyDeparture_eq]
  exact State.groupsLegal.of_groups (classifyDepart_groupsLegal (setLine_groupsLegal h l _) l _ _) (countTransition_groups _ _ _)

theorem takeChange_groupsLegal : (takeChange l s).groupsLegal := by
  unfold takeChange
  split
  · exact h
  · exact h
  · split
    · exact qualifyDeparture_groupsLegal (setLine_groupsLegal h l _) l
    · exact h
  · exact h
  · split
    · exact h.of_groups (qualifyReturn_groups l _)
    · exact h
  · exact h
  · exact h

theorem observeLevel_groupsLegal : (observeLevel l s).groupsLegal := by
  unfold observeLevel
  dsimp only
  split
  · exact h
  · exact takeChange_groupsLegal (setLine_groupsLegal h l _) l

end

/-! ## The tables and the resets -/

/-- A write of a table that holds nothing of the groups, when it is accepted. -/
theorem acceptOr_groups {α : Type} {s t : State} {o : Option α} {f : α → State} (taken : acceptOr o f = .accepted t)
    (same : ∀ x, (f x).groups = s.groups) : t.groups = s.groups := by
  cases o with
  | none => cases taken
  | some x => cases taken; exact same x

/-- A group's window is written only in CLEAR (R48, R57); the other tables hold nothing of the groups (Table 42). -/
theorem writeTable_groupsLegal {s t : State} {p : PortAddress} {w : Word} (h : s.groupsLegal)
    (taken : writeTable s p w = .accepted t) : t.groupsLegal := by
  unfold writeTable at taken
  split at taken
  · unfold writeLineEntry at taken
    split at taken
    · cases taken
    · split at taken
      · cases taken
      · exact h.of_groups (acceptOr_groups taken fun _ => rfl)
  · unfold writeProfile at taken
    split at taken
    · cases taken
    · exact h.of_groups (acceptOr_groups taken fun _ => rfl)
  · unfold writeGroup at taken
    split at taken
    · cases taken
    · split at taken
      · cases taken
      · next clear =>
        cases taken
        exact setGroup_groupsLegal h (FirstOutGroup.rewindowed_legal (h.each _) (not_not.mp clear) w)
  · unfold writeRule at taken
    split at taken
    · cases taken
    · split at taken
      · cases taken
      · exact h.of_groups (acceptOr_groups taken fun _ => rfl)
  · unfold writeOutput at taken
    split at taken
    · cases taken
    · exact h.of_groups (acceptOr_groups taken fun _ => rfl)
  · exact h.of_groups (acceptOr_groups taken fun _ => rfl)
  · cases taken

theorem writeTableData_groupsLegal {s : State} (h : s.groupsLegal) (w : Word) : (writeTableData w s).groupsLegal := by
  unfold writeTableData
  cases judged : writeTable s s.ports.control w with
  | accepted t => exact (writeTable_groupsLegal h judged).of_groups (stepPort_groups t .control)
  | refused reason => exact h
  | ignored => exact h

theorem settleLines_groups (ls : List LineId) (s : State) : (settleLines ls s).groups = s.groups := by
  induction ls generalizing s with
  | nil => rfl
  | cons l ls ih => exact (ih _).trans (qualifySettling_groups l s)

/-- RESTART leaves every group in CLEAR with its window (R58). -/
theorem restartPart_groups (s : State) :
    (restartPart s).groups = s.groups.map fun g => FirstOutGroup.cleared g.window := by
  rw [restartPart_eq, settleLines_groups, (restartRecorded_reports s).groups, restartBlocks_eq]

theorem restartPart_groupsLegal (s : State) : (restartPart s).groupsLegal := by
  refine (State.groupsLegal_iff _).mpr fun g => ?_
  rw [restartPart_groups, get_map]
  exact FirstOutGroup.cleared_legal _

theorem holdInReset_groupsLegal (s : State) : (holdInReset s).groupsLegal := by
  refine (State.groupsLegal_iff _).mpr fun g => ?_
  show ((Vector.replicate 8 (FirstOutGroup.cleared 0)).get g).legal
  rw [get_replicate]
  exact FirstOutGroup.cleared_legal 0

/-! ## Every row -/

/-- Every operation that a row asks of a block keeps the groups legal. -/
theorem rowsKeep_groupsLegal : RowsKeep State.groupsLegal where
  pending _ h := h
  freeIndex _ h := h
  lastRead _ h := h
  setSlot _ _ h := h
  tick _ h := h
  sampledInReset _ _ _ h := h
  sampled l _ _ h := observeLevel_groupsLegal (setLine_groupsLegal h l _) l
  qualifySettling l _ _ h := h.of_groups (qualifySettling_groups l _)
  qualifyDeparture l _ _ h := qualifyDeparture_groupsLegal h l
  qualifyReturn l _ _ h := h.of_groups (qualifyReturn_groups l _)
  closeWindow _ _ h := h
  releaseLine l _ _ h := h.of_groups (releaseLine_groups l _)
  takePulse _ _ h := takePulse_groupsLegal h
  superviseEnds _ _ h := h.of_groups (superviseEnds_blocksStand _).groups
  holdAbsorbed _ h := h
  resolveGroup g _ _ h := resolveGroup_groupsLegal h g false
  lapse r k _ h := h.of_groups (lapse_lapsed .window r k _).groups
  escalate _ e _ _ _ h := h.of_groups (escalate_groups e _)
  lengthExpires _ _ _ h := h
  gapExpires _ _ _ h := h
  holdoffExpires _ _ _ h := h
  flashPhase _ h := h.of_groups rfl
  readChannelData half _ h := h.of_groups (readChannelData_blocksStand half _).groups
  statusTaken _ _ h := h
  latchTime _ _ h := h
  stepPort _ _ h := h
  clearTableStatus _ h := h
  writeTableData w _ h := writeTableData_groupsLegal h w
  writePortAddress half w _ h := h.of_groups (writePortAddress_blocksStand half w _).groups
  writeStoreControl _ _ h := h
  writeTimeControl v _ h := h.of_groups (writeTimeControl_blocksStand v _).groups
  writeTolerance v _ h := h.of_groups (writeTolerance_blocksStand v _).groups
  writeStepLimit v _ h := h.of_groups (writeStepLimit_blocksStand v _).groups
  writeSetHigh _ _ h := h
  writeAckRecording _ _ h := h
  writeOutputData _ _ h := h
  writeThreshold half v _ h := h.of_groups (writeThreshold_blocksStand half v _).groups
  writeHoldoff _ _ _ h := h
  writeChannelCauses half v _ h := h.of_groups (writeChannelCauses_blocksStand half v _).groups
  writeSystemCauses _ _ _ h := h
  writeSystemRoutes _ _ h := h
  armLine l _ _ h := h.of_groups (armDisarmed_groups l _)
  disarmLine l _ _ h := h.of_groups (disarmArmed_groups l _)
  injectLevel l _ _ _ h := observeLevel_groupsLegal (setLine_groupsLegal h l _) l
  clearGroup g _ _ h := clearGroup_groupsLegal h g
  ruleEnable _ _ h := by
    unfold ruleEnable
    split <;> exact h
  disableRule r _ h := h.of_groups (disableRule_onlyEngine r _).groups
  setCounter v _ h := setCounter_groupsLegal h v
  takeSnapshot _ h := h.of_groups (report_onlyReports _ _ _ _).groups
  clearStore _ h := h.of_groups (clearStore_blocksStand _).groups
  requestPulse _ _ h := h
  ackLine tag half l _ h := h.of_groups ((acknowledged_groups _).trans (ackEntry_groups tag half l _))
  ackAll tag half _ h := h.of_groups ((acknowledged_groups _).trans (ackEntries_groups tag half _ (false, _)))
  silenceEntries half _ h := h.of_groups (silenceEntries_groups half _)
  mark _ _ _ h := h.of_groups (report_onlyReports _ _ _ _).groups
  restartPart _ _ := restartPart_groupsLegal _
  enableFromOldest half _ h := h.of_groups (enableFromOldest_blocksStand half _).groups
  enableFromNext half _ h := h.of_groups (enableFromNext_blocksStand half _).groups
  disableChannel half _ h := h.of_groups (disableChannel_blocksStand half _).groups
  skipRecord half _ h := h.of_groups (skipRecord_blocksStand half _).groups
  rereadRecord half _ h := h.of_groups (rereadRecord_blocksStand half _).groups
  holdInReset _ := holdInReset_groupsLegal _
  releaseReset {s} _ := State.groupsLegal.of_groups (s := { Machine.holdInReset s with inReset := false })
    (holdInReset_groupsLegal s) (report_onlyReports _ _ _ _).groups

/-- Settles O38: every operation keeps every group legal, so every step does. -/
theorem groupsLegalAfterEveryStep : Obligations.GroupsLegalAfterEveryStep :=
  fun s t legal ran => (t.groupsLegal_iff).mp (rowsKeep_groupsLegal.step (s.groupsLegal_iff.mpr legal) ran)

end Sys2Proof.Machine

/-! PROOFS. Appended: the handling of an event reaches the store and the channels by append requests alone, none of them for a LOSS
record (R66, R71). -/
namespace Sys2Proof.Machine

/-- The store and the channels of t come from those of s by append requests, none of them for a LOSS record. -/
inductive Appended : State → State → Prop
  | stand {s t : State} (store : t.store = s.store) (channels : t.channels = s.channels) : Appended s t
  | request (stamp : Stamp) (test : Bool) {body : Body} (s : State) (kind : body.kind ≠ 14) :
      Appended s (append stamp test body s).2
  | trans {s t u : State} (a : Appended s t) (b : Appended t u) : Appended s u

/-- P stands on the store and the channels, and an append request keeps it. -/
structure AppendsKeep (P : State → Prop) : Prop where
  stand : ∀ {s t : State}, P s → t.store = s.store → t.channels = s.channels → P t
  request : ∀ (stamp : Stamp) (test : Bool) {body : Body} {s : State}, body.kind ≠ 14 → P s → P (append stamp test body s).2

theorem Appended.keeps {P : State → Prop} (k : AppendsKeep P) {s t : State} (a : Appended s t) (h : P s) : P t := by
  induction a with
  | stand store channels => exact k.stand h store channels
  | request stamp test s kind => exact k.request stamp test kind h
  | trans _ _ first second => exact second (first h)

theorem Appended.refl (s : State) : Appended s s := .stand rfl rfl

/-- What comes after leaves them alone. -/
theorem Appended.before {s t u : State} (a : Appended s t) (store : u.store = t.store) (channels : u.channels = t.channels) :
    Appended s u := .trans a (.stand store channels)

theorem Appended.ite {s t u : State} {c : Prop} [Decidable c] (a : Appended s t) (b : Appended s u) :
    Appended s (if c then t else u) := by
  split
  · exact a
  · exact b

theorem report_appended (stamp : Stamp) (test : Bool) {body : Body} (s : State) (kind : body.kind ≠ 14) :
    Appended s (report stamp test body s) := .request stamp test s kind

theorem requestAction_appended (a : Option OutputId) (s : State) : Appended s (requestAction a s) := by
  cases a <;> exact .stand rfl rfl

/-! ## Small updates -/

theorem raise_appended (c : SystemCause) (s : State) : Appended s (raise c s) := .stand rfl rfl

theorem setLine_appended (s : State) (l : LineId) (x : LineState) : Appended s (s.setLine l x) := .stand rfl rfl

theorem setGroup_appended (s : State) (g : GroupId) (x : FirstOutGroup) : Appended s (s.setGroup g x) := .stand rfl rfl

theorem setRule_appended (s : State) (r : RuleId) (x : CorrRule) : Appended s (s.setRule r x) := .stand rfl rfl

theorem setTime_appended (s : State) (t : TimeBase) : Appended s { s with time := t } := .stand rfl rfl

theorem setFreeIndex_appended (s : State) (n : Nat) : Appended s { s with freeIndex := n } := .stand rfl rfl

theorem setEntries_handed_appended (s : State) (es : List AlarmEntry) : Appended s (handSummaries (s.setEntries es)) :=
  .stand rfl rfl

/-! ## Groups -/

theorem resolveGroup_appended (g : GroupId) (d : Bool) (s : State) : Appended s (resolveGroup g d s) := by
  cases first : firstOutOf (s.groups.get g).candidates with
  | none => rw [resolveGroup_none first]; exact .refl s
  | some f =>
    rw [resolveGroup_trips first]
    refine Appended.trans (setGroup_appended s g _) (Appended.trans (report_appended _ _ _ ?_) (raise_appended _ _))
    simp [Body.kind]

theorem groupDeparture_appended (g : GroupId) (c : Candidate) (s : State) : Appended s (groupDeparture g c s) := by
  unfold groupDeparture
  dsimp only
  split
  · exact .ite ((setGroup_appended s g _).trans (resolveGroup_appended g false _)) (setGroup_appended s g _)
  · exact .ite (.refl s) (.stand rfl rfl)
  · exact .stand rfl rfl

theorem clearGroup_appended (g : GroupId) (s : State) : Appended s (clearGroup g s) :=
  (report_appended s.now false s (by simp [Body.kind])).before rfl rfl

/-! ## The engine -/

theorem lapse_appended (reason : LapseReason) (r : RuleId) (k : Nat) (s : State) : Appended s (lapse reason r k s) := by
  unfold lapse
  split
  · exact .refl s
  · exact (Appended.ite (report_appended _ _ _ (by simp [Body.kind])) (.refl s)).before rfl rfl

theorem lapseOldest_appended (reason : LapseReason) (r : RuleId) (n : Nat) (s : State) :
    Appended s (lapseOldest reason r n s) := by
  induction n generalizing s with
  | zero => exact .refl s
  | succ n ih => exact (lapse_appended reason r 0 s).trans (ih _)

theorem lapseAll_appended (items : List (RuleId × Nat)) (s : State) : Appended s (lapseAll items s) := by
  induction items generalizing s with
  | nil => exact .refl s
  | cons item rest ih => exact (lapse_appended .window item.1 item.2 s).trans (ih _)

theorem freeContext_appended (r : RuleId) (k : Nat) (s : State) : Appended s (freeContext r k s) := .stand rfl rfl

theorem complete_appended (r : RuleId) (k : Nat) (c : CorrContext) (stamp : Stamp) (s : State) :
    Appended s (complete r k c stamp s) := by
  have recorded : Appended s (report stamp c.anyTest (.matched r (s.rules.get r).stepCount c.refs) s) :=
    report_appended _ _ _ (by simp [Body.kind])
  unfold complete
  dsimp only
  refine Appended.trans ?_ (freeContext_appended _ _ _)
  refine Appended.trans ?_ (requestAction_appended _ _)
  exact recorded.before rfl rfl

theorem startContext_appended (r : RuleId) (ev : CorrEvent) (p : Fin 4) (s : State) : Appended s (startContext r ev p s) :=
  .ite (.stand rfl rfl) (.ite (.ite (.stand rfl rfl) (.stand rfl rfl)) (.stand rfl rfl))

theorem visitRule_appended (ev : CorrEvent) (r : RuleId) (s : State) : Appended s (visitRule ev r s).1 := by
  unfold visitRule
  dsimp only
  split
  · exact .refl s
  · split
    · split
      · exact .refl s
      · split
        · exact (setRule_appended s r _).trans (complete_appended _ _ _ _ _)
        · exact .stand rfl rfl
    · split
      · exact .refl s
      · exact startContext_appended _ _ _ _

theorem visitRules_appended (ev : CorrEvent) (rs : List RuleId) (s : State) : Appended s (visitRules ev rs s).1 := by
  induction rs generalizing s with
  | nil => exact .refl s
  | cons r rs ih => exact (visitRule_appended ev r s).trans (ih _)

theorem correlate_appended (ev : CorrEvent) (s : State) : Appended s (correlate ev s) := by
  unfold correlate
  dsimp only
  refine Appended.trans (visitRules_appended ev (List.finRange 16) s) (Appended.trans ?_ (lapseAll_appended _ _))
  exact setFreeIndex_appended _ _

theorem disableRule_appended (r : RuleId) (s : State) : Appended s (disableRule r s) :=
  (lapseOldest_appended .disabled r _ s).before rfl rfl

/-! ## The Alarm List -/

theorem OnlyAlarms.appended {s t : State} (a : OnlyAlarms s t) : Appended s t := .stand a.store a.channels

theorem ackRecord_appended (l : LineId) (r : AckResult) (test : Bool) (tag : Word) (side : Half) (s : State) :
    Appended s (ackRecord l r test tag side s) :=
  .ite (report_appended _ _ _ (by simp [Body.kind])) (.refl s)

theorem ackEntry_appended (tag : Word) (side : Half) (l : LineId) (s : State) : Appended s (ackEntry tag side l s).2 := by
  unfold ackEntry
  split
  · exact .refl s
  · split
    · exact (setEntries_onlyAlarms s _).appended.trans (ackRecord_appended _ _ _ _ _ _)
    · exact (setEntries_onlyAlarms s _).appended.trans (ackRecord_appended _ _ _ _ _ _)
    · exact .refl s

theorem ackEntries_appended (tag : Word) (side : Half) (ls : List LineId) (r : Bool × State) :
    Appended r.2 (ackEntries tag side ls r).2 := by
  induction ls generalizing r with
  | nil => exact .refl _
  | cons l ls ih =>
    exact (ackEntry_appended tag side l r.2).trans (ih (r.1 || (ackEntry tag side l r.2).1, (ackEntry tag side l r.2).2))

theorem acknowledged_appended {s : State} {r : Bool × State} (a : Appended s r.2) : Appended s (acknowledged r).2 := by
  unfold acknowledged
  split
  · exact a.before rfl rfl
  · exact a

theorem silenceEntries_appended (side : Half) (s : State) : Appended s (silenceEntries side s) :=
  (setEntries_handed_appended s _).trans (report_appended s.now false _ (by simp [Body.kind]))

theorem escalate_appended (e : AlarmEntry) (s : State) : Appended s (escalate e s) := by
  unfold escalate
  dsimp only
  refine Appended.trans ?_ (setEntries_onlyAlarms _ _).appended
  refine Appended.trans ?_ (requestAction_appended _ _)
  refine Appended.trans (setEntries_handed_appended s _) (Appended.trans (report_appended _ _ _ ?_) (raise_appended _ _))
  simp [Body.kind]

/-! ## The classifier -/

theorem recordChange_appended (wanted : Bool) (l : LineId) (d : Direction) (stamp : Stamp) (test : Bool) (s : State) :
    Appended s (recordChange wanted l d stamp test s).2 := by
  cases wanted with
  | true => exact .request _ _ _ (by simp [lineBody, Body.kind])
  | false => exact .refl s

theorem handGroup_appended (g : Option GroupId) (c : Candidate) (s : State) : Appended s (handGroup g c s) := by
  cases g with
  | none => exact .refl s
  | some g => exact groupDeparture_appended g c s

theorem routeDepart_appended (l : LineId) (stamp : Stamp) (test : Bool) (e : LineEntry) (num : Option Word) (s : State) :
    Appended s (routeDepart l stamp test e num s) := by
  unfold routeDepart
  dsimp only
  refine Appended.trans (handGroup_appended e.group ⟨l, stamp, test, num⟩ s) (Appended.trans ?_ (requestAction_appended _ _))
  exact .ite (correlate_appended _ _) ((correlate_appended _ _).trans (alarmDeparture_apart _ _).appended)

theorem routeReturn_appended (l : LineId) (stamp : Stamp) (test : Bool) (e : LineEntry) (num : Option Word) (s : State) :
    Appended s (routeReturn l stamp test e num s) := by
  unfold routeReturn
  dsimp only
  refine Appended.trans ?_ (requestAction_appended _ _)
  exact .ite (correlate_appended _ _) ((correlate_appended _ _).trans (alarmReturn_onlyAlarms _ _).appended)

theorem classifyDepart_appended (l : LineId) (stamp : Stamp) (test : Bool) (s : State) :
    Appended s (classifyDepart l stamp test s) := by
  rw [classifyDepart_eq]
  exact (recordChange_appended _ _ _ _ _ s).trans (routeDepart_appended _ _ _ _ _ _)

theorem classifyReturn_appended (l : LineId) (stamp : Stamp) (test : Bool) (s : State) :
    Appended s (classifyReturn l stamp test s) := by
  rw [classifyReturn_eq]
  exact (recordChange_appended _ _ _ _ _ s).trans (routeReturn_appended _ _ _ _ _ _)

theorem classifyInitial_appended (l : LineId) (v : Level) (stamp : Stamp) (test : Bool) (s : State) :
    Appended s (classifyInitial l v stamp test s) := by
  have recorded : Appended s (append stamp test (.armed l v) s).2 := .request _ _ _ (by simp [Body.kind])
  exact .ite recorded (recorded.trans (alarmDeparture_apart _ _).appended)

theorem classifyChatterOn_appended (l : LineId) (v : Level) (stamp : Stamp) (test : Bool) (s : State) :
    Appended s (classifyChatterOn l v stamp test s) := by
  have recorded : Appended s (raise .chatter (append stamp test (.chatterOn l v) s).2) :=
    (Appended.request _ _ _ (by simp [Body.kind])).before rfl rfl
  exact .ite recorded (recorded.trans (alarmChatterOn_onlyAlarms _ _).appended)

theorem classifyChatterOff_appended (l : LineId) (v : Level) (n : Word) (stamp : Stamp) (test : Bool) (s : State) :
    Appended s (classifyChatterOff l v n stamp test s) := by
  have recorded : Appended s (append stamp test (.chatterOff l v n) s).2 := .request _ _ _ (by simp [Body.kind])
  exact .ite recorded (recorded.trans (alarmChatterOff_onlyAlarms _ _ _).appended)

theorem classifyDisarmed_appended (l : LineId) (stamp : Stamp) (test : Bool) (s : State) :
    Appended s (classifyDisarmed l stamp test s) := by
  have recorded : Appended s (report stamp test (.disarmed l) s) := report_appended _ _ _ (by simp [Body.kind])
  exact .ite recorded (recorded.trans (alarmWithdraw_onlyAlarms _ _).appended)

/-! ## The conditioner -/

theorem countTransition_appended (l : LineId) (edge : Stamp) (s : State) : Appended s (countTransition l edge s) := by
  refine .ite (.refl s) (.ite ?_ (.stand rfl rfl))
  rw [enterChatter_eq]
  exact (setLine_appended s l _).trans (classifyChatterOn_appended _ _ _ _ _)

theorem qualifySettling_appended (l : LineId) (s : State) : Appended s (qualifySettling l s) :=
  (setLine_appended s l _).trans (classifyInitial_appended _ _ _ _ _)

theorem qualifyDeparture_appended (l : LineId) (s : State) : Appended s (qualifyDeparture l s) :=
  (setLine_appended s l _).trans ((classifyDepart_appended _ _ _ _).trans (countTransition_appended _ _ _))

theorem qualifyReturn_appended (l : LineId) (s : State) : Appended s (qualifyReturn l s) :=
  (setLine_appended s l _).trans ((classifyReturn_appended _ _ _ _).trans (countTransition_appended _ _ _))

theorem releaseLine_appended (l : LineId) (s : State) : Appended s (releaseLine l s) :=
  (setLine_appended s l _).trans (classifyChatterOff_appended _ _ _ _ _ _)

theorem takeChange_appended (l : LineId) (s : State) : Appended s (takeChange l s) := by
  unfold takeChange
  split
  · exact .refl s
  · exact .stand rfl rfl
  · exact .ite ((setLine_appended s l _).trans (qualifyDeparture_appended l _)) (setLine_appended s l _)
  · exact .stand rfl rfl
  · exact .ite ((setLine_appended s l _).trans (qualifyReturn_appended l _)) (setLine_appended s l _)
  · exact .stand rfl rfl
  · exact .stand rfl rfl

theorem observeLevel_appended (l : LineId) (s : State) : Appended s (observeLevel l s) :=
  .ite (.refl s) ((setLine_appended s l _).trans (takeChange_appended l _))

theorem armDisarmed_appended (l : LineId) (s : State) : Appended s (armDisarmed l s) :=
  .ite ((setLine_appended s l _).trans (qualifySettling_appended l _)) (setLine_appended s l _)

theorem disarmArmed_appended (l : LineId) (s : State) : Appended s (disarmArmed l s) :=
  (classifyDisarmed_appended _ _ _ _).trans (setLine_appended _ l _)

theorem settleLines_appended (ls : List LineId) (s : State) : Appended s (settleLines ls s) := by
  induction ls generalizing s with
  | nil => exact .refl s
  | cons l ls ih => exact (qualifySettling_appended l s).trans (ih _)

/-! ## The Time Base -/

theorem noticeActions_appended (items : List (GroupId ⊕ RuleId)) (s : State) : Appended s (noticeActions items s) := by
  induction items generalizing s with
  | nil => exact .refl s
  | cons a rest ih =>
    cases a with
    | inl g => exact (resolveGroup_appended g true s).trans (ih _)
    | inr r => exact (lapse_appended .timeStep r 0 s).trans (ih _)

theorem discontinuityNotice_appended (s : State) : Appended s (discontinuityNotice s) := by
  rw [discontinuityNotice_eq]
  exact (setFreeIndex_appended s _).trans (noticeActions_appended _ _)

theorem changeQuality_appended (q : Quality) (s : State) : Appended s (changeQuality q s) := by
  refine .ite (.refl s) (Appended.trans ?_ (raise_appended .timeQuality _))
  exact (setTime_appended s _).trans (report_appended _ _ _ (by simp [Body.kind]))

/-- A change of quality after a change of the Time Base. -/
theorem changeQuality_timed_appended (q : Quality) (t : TimeBase) (s : State) :
    Appended s (changeQuality q { s with time := t }) := (setTime_appended s t).trans (changeQuality_appended q _)

theorem correctCounter_appended (offset : Int) (s : State) : Appended s (correctCounter offset s) :=
  .ite (setTime_appended s _) (setTime_appended s _)

theorem stepCounter_appended (q : Quality) (offset : Int) (s : State) : Appended s (stepCounter q offset s) := by
  refine Appended.trans (Appended.trans ?_ (changeQuality_appended _ _)) (discontinuityNotice_appended _)
  exact (setTime_appended s _).trans (report_appended _ _ _ (by simp [Body.kind]))

theorem alignCounter_appended (beyond : Quality) (s : State) : Appended s (alignCounter beyond s) :=
  .ite ((correctCounter_appended _ s).trans (changeQuality_appended _ _)) (stepCounter_appended _ _ s)

theorem referenced_appended (s : State) : Appended s s.referenced := .stand rfl rfl

theorem takePulse_appended (s : State) : Appended s (takePulse s) := by
  by_cases aligns : s.time.aligns
  · rw [takePulse_aligns aligns]
    exact ((setTime_appended s _).trans (alignCounter_appended _ s.unheld)).trans (referenced_appended _)
  · cases quality : s.time.quality with
    | free =>
      unfold takePulse
      rw [quality]
      exact .stand rfl rfl
    | acquiring =>
      rw [takePulse_irregular quality (by simpa [TimeBase.aligns, quality] using aligns)]
      exact .stand rfl rfl
    | locked => exact absurd (.inl quality) aligns
    | holdover => exact absurd (.inr (.inl quality)) aligns

theorem setCounter_appended (v : Timestamp) (s : State) : Appended s (setCounter v s) := by
  rw [setCounter_eq]
  refine Appended.trans (Appended.trans ?_ (changeQuality_appended _ _)) (discontinuityNotice_appended _)
  exact (setTime_appended s _).trans (report_appended _ _ _ (by simp [Body.kind]))

theorem writeTimeControl_appended (v : Word) (s : State) : Appended s (writeTimeControl v s) := by
  unfold writeTimeControl enableSync disableSync
  split
  · split
    · exact .refl s
    · exact changeQuality_timed_appended _ _ s
  · split
    · exact changeQuality_timed_appended _ _ s
    · exact .refl s

/-- The end of supervision (R31). -/
theorem superviseEnds_appended (s : State) : Appended s
    (if s.time.quality = .locked then changeQuality .holdover { s with time := { s.time with supervision := none } }
      else { s with time := { s.time with supervision := none } }) :=
  .ite (changeQuality_timed_appended _ _ s) (setTime_appended s _)

/-! ## The ports and the tables -/

theorem writePortAddress_appended (h : Half) (w : Word) (s : State) : Appended s (writePortAddress h w s) :=
  .ite (.stand rfl rfl) (.refl s)

theorem acceptOr_appended {α : Type} {s t : State} {o : Option α} {f : α → State} (taken : acceptOr o f = .accepted t)
    (stands : ∀ x, Appended s (f x)) : Appended s t := by
  cases o with
  | none => cases taken
  | some x => cases taken; exact stands x

/-- The tables hold nothing of the store and the channels (Table 42). -/
theorem writeTable_appended {s t : State} {p : PortAddress} {w : Word} (taken : writeTable s p w = .accepted t) :
    Appended s t := by
  unfold writeTable at taken
  split at taken
  · unfold writeLineEntry at taken
    split at taken
    · cases taken
    · split at taken
      · cases taken
      · exact acceptOr_appended taken fun _ => .stand rfl rfl
  · unfold writeProfile at taken
    split at taken
    · cases taken
    · exact acceptOr_appended taken fun _ => .stand rfl rfl
  · unfold writeGroup at taken
    split at taken
    · cases taken
    · split at taken
      · cases taken
      · cases taken; exact .stand rfl rfl
  · unfold writeRule at taken
    split at taken
    · cases taken
    · split at taken
      · cases taken
      · exact acceptOr_appended taken fun _ => .stand rfl rfl
  · unfold writeOutput at taken
    split at taken
    · cases taken
    · exact acceptOr_appended taken fun _ => .stand rfl rfl
  · exact acceptOr_appended taken fun _ => .stand rfl rfl
  · cases taken

theorem writeTableData_appended (w : Word) (s : State) : Appended s (writeTableData w s) := by
  unfold writeTableData
  cases judged : writeTable s s.ports.control w with
  | accepted t => exact (writeTable_appended judged).before rfl rfl
  | refused reason => exact .stand rfl rfl
  | ignored => exact .stand rfl rfl

end Sys2Proof.Machine

/-! PROOFS. StoreRows: a property of the store and the channels that their own operations keep is kept by every row; the store's
reserve and its numbering are such properties (O8). -/
namespace Sys2Proof.Machine

/-- P stands on the store and the channels, and every operation of the store and the channels keeps it. -/
structure StoreRowsKeep (P : State → Prop) : Prop extends AppendsKeep P where
  policy : ∀ {s : State} (p : Policy), P s → P { s with store := { s.store with policy := p } }
  discarded : ∀ {s : State} (cause : Bool), P s → P (discardRecords cause s)
  restarted : ∀ {s : State}, P s → P (restartBlocks s)
  held : ∀ (s : State), P (holdInReset s)
  holdoffExpires : ∀ {s : State} (h : Half), P s → P (s.setChannel h { s.channels.get h with holdoffTimer := none })
  readChannelData : ∀ {s : State} (h : Half), P s → P (readChannelData h s)
  statusTaken : ∀ {s : State} (h : Half), P s → P (s.setChannel h (s.channels.get h).statusTaken)
  writeThreshold : ∀ {s : State} (h : Half) (w : Word), P s → P (writeThreshold h w s)
  writeHoldoff : ∀ {s : State} (h : Half) (w : Word), P s → P (writeHoldoff h w s)
  readyCleared : ∀ {s : State} (h : Half), P s → P (readyCleared h s)
  enableFromOldest : ∀ {s : State} (h : Half), P s → P (enableFromOldest h s).2
  enableFromNext : ∀ {s : State} (h : Half), P s → P (enableFromNext h s).2
  disableChannel : ∀ {s : State} (h : Half), P s → P (disableChannel h s).2
  skipRecord : ∀ {s : State} (h : Half), P s → P (skipRecord h s).2
  rereadRecord : ∀ {s : State} (h : Half), P s → P (rereadRecord h s).2

section
variable {P : State → Prop} (k : StoreRowsKeep P) {s : State}
include k

theorem StoreRowsKeep.appended {t : State} (a : Appended s t) (p : P s) : P t := a.keeps k.toAppendsKeep p

theorem StoreRowsKeep.clearStore (p : P s) : P (clearStore s) :=
  k.request _ _ (by simp [Body.kind]) (k.discarded true p)

theorem StoreRowsKeep.writeChannelCauses (h : Half) (v : Word) (p : P s) : P (writeChannelCauses h v s) := by
  have written : P { s with irq := { s.irq with channel := s.irq.channel.set h ((s.irq.channel.get h).written v) } } :=
    k.stand p rfl rfl
  unfold Machine.writeChannelCauses
  dsimp only
  split
  · exact k.readyCleared h written
  · exact written

theorem StoreRowsKeep.restartPart (p : P s) : P (restartPart s) := by
  rw [restartPart_eq]
  exact k.appended (settleLines_appended _ _) (k.request _ _ (by simp [Body.kind]) (k.restarted p))

theorem StoreRowsKeep.releaseReset : P (releaseReset s) := by
  have released : P { Machine.holdInReset s with inReset := false } := k.stand (k.held s) rfl rfl
  exact k.request _ _ (by simp [Body.kind]) released

/-- Every row keeps what the operations of the store and the channels keep. -/
theorem StoreRowsKeep.rowsKeep : RowsKeep P where
  pending _ p := k.stand p rfl rfl
  freeIndex _ p := k.stand p rfl rfl
  lastRead _ p := k.stand p rfl rfl
  setSlot _ _ p := k.stand p rfl rfl
  tick _ p := k.stand p rfl rfl
  sampledInReset _ _ _ p := k.stand p rfl rfl
  sampled l _ _ p := k.appended ((setLine_appended _ l _).trans (observeLevel_appended l _)) p
  qualifySettling l _ _ p := k.appended (qualifySettling_appended l _) p
  qualifyDeparture l _ _ p := k.appended (qualifyDeparture_appended l _) p
  qualifyReturn l _ _ p := k.appended (qualifyReturn_appended l _) p
  closeWindow _ _ p := k.stand p rfl rfl
  releaseLine l _ _ p := k.appended (releaseLine_appended l _) p
  takePulse _ _ p := k.appended (takePulse_appended _) p
  superviseEnds _ _ p := k.appended (superviseEnds_appended _) p
  holdAbsorbed _ p := k.stand p rfl rfl
  resolveGroup g _ _ p := k.appended (resolveGroup_appended g false _) p
  lapse r n _ p := k.appended (lapse_appended .window r n _) p
  escalate _ e _ _ _ p := k.appended (escalate_appended e _) p
  lengthExpires _ _ _ p := k.stand p rfl rfl
  gapExpires _ _ _ p := k.stand p rfl rfl
  holdoffExpires {s} h _ _ p :=
    k.stand (t := raiseChannel h .ready _) (k.holdoffExpires h p) rfl rfl
  flashPhase _ p := k.stand p rfl rfl
  readChannelData h _ p := k.readChannelData h p
  statusTaken h _ p := k.statusTaken h p
  latchTime _ _ p := k.stand p rfl rfl
  stepPort _ _ p := k.stand p rfl rfl
  clearTableStatus _ p := k.stand p rfl rfl
  writeTableData w _ p := k.appended (writeTableData_appended w _) p
  writePortAddress h w _ p := k.appended (writePortAddress_appended h w _) p
  writeStoreControl _ _ p := k.policy _ p
  writeTimeControl v _ p := k.appended (writeTimeControl_appended v _) p
  writeTolerance _ _ p := k.appended (.ite (.refl _) (setTime_appended _ _)) p
  writeStepLimit _ _ p := k.appended (.ite (.refl _) (setTime_appended _ _)) p
  writeSetHigh _ _ p := k.stand p rfl rfl
  writeAckRecording _ _ p := k.stand p rfl rfl
  writeOutputData _ _ p := k.stand p rfl rfl
  writeThreshold h v _ p := k.writeThreshold h v p
  writeHoldoff h v _ p := k.writeHoldoff h v p
  writeChannelCauses h v _ p := k.writeChannelCauses h v p
  writeSystemCauses _ _ _ p := k.stand p rfl rfl
  writeSystemRoutes _ _ p := k.stand p rfl rfl
  armLine l _ _ p := k.appended (armDisarmed_appended l _) p
  disarmLine l _ _ p := k.appended (disarmArmed_appended l _) p
  injectLevel l _ _ _ p := k.appended ((setLine_appended _ l _).trans (observeLevel_appended l _)) p
  clearGroup g _ _ p := k.appended (clearGroup_appended g _) p
  ruleEnable _ _ p := by
    unfold ruleEnable
    split
    · exact p
    · exact k.stand p rfl rfl
  disableRule r _ p := k.appended (disableRule_appended r _) p
  setCounter v _ p := k.appended (setCounter_appended v _) p
  takeSnapshot _ p := k.request _ _ (by simp [Body.kind]) p
  clearStore _ p := k.clearStore p
  requestPulse q _ p := k.appended (requestAction_appended (some q) _) p
  ackLine tag h l _ p := k.appended (acknowledged_appended (ackEntry_appended tag h l _)) p
  ackAll tag h _ p := k.appended (acknowledged_appended (ackEntries_appended tag h _ (false, _))) p
  silenceEntries h _ p := k.appended (silenceEntries_appended h _) p
  mark _ _ _ p := k.request _ _ (by simp [Body.kind]) p
  restartPart _ p := k.restartPart p
  enableFromOldest h _ p := k.enableFromOldest h p
  enableFromNext h _ p := k.enableFromNext h p
  disableChannel h _ p := k.disableChannel h p
  skipRecord h _ p := k.skipRecord h p
  rereadRecord h _ p := k.rereadRecord h p
  holdInReset _ := k.held _
  releaseReset _ := k.releaseReset

end

/-! ## A property of the store alone -/

/-- Q stands on the store alone; it holds of an empty store with no loss pending, and append requests, reclaims and a change
of the policy keep it. -/
structure StoreKeeps (Q : Store → Prop) : Prop where
  request : ∀ (stamp : Stamp) (test : Bool) {body : Body} {s : State}, body.kind ≠ 14 → Q s.store →
    Q (append stamp test body s).2.store
  reclaim : ∀ {s : State}, Q s.store → Q (reclaim s).store
  policy : ∀ {st : Store} (p : Policy), Q st → Q { st with policy := p }
  empty : ∀ {st : Store}, st.records = [] → st.loss = none → Q st

theorem writeThreshold_store (h : Half) (v : Word) (s : State) : (writeThreshold h v s).store = s.store := by
  unfold writeThreshold
  dsimp only
  split
  · rfl
  · split <;> rfl

theorem readyCleared_store (h : Half) (s : State) : (readyCleared h s).store = s.store := by
  unfold readyCleared
  dsimp only
  split
  · rfl
  · split
    · rfl
    · split <;> rfl

theorem enableFromOldest_store (h : Half) (s : State) : (enableFromOldest h s).2.store = s.store := by
  unfold enableFromOldest
  dsimp only
  split
  · rfl
  · exact readyRules_store h 0 _

theorem rereadRecord_store (h : Half) (s : State) : (rereadRecord h s).2.store = s.store := by
  unfold rereadRecord
  dsimp only
  split
  · rfl
  · split <;> rfl

/-- A clear leaves no record and no pending loss (R80, R83). -/
theorem discardRecords_store (cause : Bool) (s : State) :
    (discardRecords cause s).store = { s.store with records := [], loss := none } := by simp [discardRecords]

section
variable {Q : Store → Prop} (k : StoreKeeps Q) {s : State} (h : Half) (q : Q s.store)
include k q

theorem StoreKeeps.readChannelData : Q (readChannelData h s).store := by
  unfold Machine.readChannelData
  dsimp only
  split
  · exact q
  · split
    · exact q
    · exact k.reclaim q

theorem StoreKeeps.enableFromNext : Q (enableFromNext h s).2.store := by
  unfold Machine.enableFromNext
  dsimp only
  split
  · exact q
  · exact k.reclaim q

theorem StoreKeeps.disableChannel : Q (disableChannel h s).2.store := by
  unfold Machine.disableChannel
  dsimp only
  split
  · exact k.reclaim q
  · exact q

theorem StoreKeeps.skipRecord : Q (skipRecord h s).2.store := by
  unfold Machine.skipRecord
  dsimp only
  split
  · exact q
  · split
    · exact q
    · exact k.reclaim q

end

theorem StoreKeeps.storeRowsKeep {Q : Store → Prop} (k : StoreKeeps Q) : StoreRowsKeep fun s => Q s.store where
  stand q same _ := by rw [same]; exact q
  request stamp test _ _ kind q := k.request stamp test kind q
  policy p q := k.policy p q
  discarded cause _ := k.empty (by rw [discardRecords_store]) (by rw [discardRecords_store])
  restarted _ := k.empty (by rw [restartBlocks_eq]) (by rw [restartBlocks_eq])
  held _ := k.empty rfl rfl
  holdoffExpires _ q := q
  readChannelData h q := k.readChannelData h q
  statusTaken _ q := q
  writeThreshold h v q := by rw [writeThreshold_store]; exact q
  writeHoldoff _ _ q := q
  readyCleared h q := by rw [readyCleared_store]; exact q
  enableFromOldest h q := by rw [enableFromOldest_store]; exact q
  enableFromNext h q := k.enableFromNext h q
  disableChannel h q := k.disableChannel h q
  skipRecord h q := k.skipRecord h q
  rereadRecord h q := by rw [rereadRecord_store]; exact q

/-! ## The reserve and the numbering -/

theorem storeKeeps_reserve : StoreKeeps Store.keepsReserve where
  request stamp test body _ _ kept := append_keepsReserve stamp test body _ kept
  reclaim kept := reclaim_keepsReserve _ kept
  policy _ kept := kept
  empty none_ _ := by simp [Store.keepsReserve, none_]

theorem storeKeeps_accounts : StoreKeeps Store.accounts where
  request stamp test body _ kind kept := append_accounts stamp test body _ kind kept
  reclaim kept := reclaim_accounts _ kept
  policy _ kept := kept
  empty none_ whole := by simp [Store.accounts, none_, whole, numbered]

/-- Settles O8: append requests and reclaims keep the reserve and the numbering, so every row does. -/
theorem storeReserveAndNumbersKept : Obligations.StoreReserveAndNumbersKept :=
  ⟨fun _ _ kept ran => storeKeeps_reserve.storeRowsKeep.rowsKeep.step kept ran,
    fun _ _ kept ran => storeKeeps_accounts.storeRowsKeep.rowsKeep.step kept ran⟩

end Sys2Proof.Machine

/-! PROOFS. Cursors: what the notices of a written, a dropped and a discarded record make of each channel (O11). Each notice goes to
the control channel and then to the archive channel, and reaches nothing of the other half. -/
namespace Sys2Proof.Machine

/-! ## A notice told to both channels -/

/-- t shows half h of s, its channel and its flags, at the same moment. -/
structure SameHalf (h : Half) (s t : State) : Prop where
  channel : t.channels.get h = s.channels.get h
  flags : t.irq.channel.get h = s.irq.channel.get h
  time : t.time = s.time

theorem SameHalf.refl (h : Half) (s : State) : SameHalf h s s := ⟨rfl, rfl, rfl⟩

theorem SameHalf.cause {h : Half} {s t : State} (a : SameHalf h s t) (c : ChannelCause) :
    t.channelCauseSet h c = s.channelCauseSet h c := by rw [State.channelCauseSet, State.channelCauseSet, a.flags]

/-- Of a notice told to both channels each half sees its own. -/
theorem told_both {notice : Half → State → State} (apart : ∀ h k s, k ≠ h → SameHalf k s (notice h s))
    (stored : ∀ h s, (notice h s).store = s.store) (h : Half) (s : State) : ∃ u, SameHalf h s u ∧ u.store = s.store ∧
    SameHalf h (notice h u) (notice .archive (notice .control s)) := by
  cases h with
  | control => exact ⟨s, .refl _ s, rfl, apart .archive .control _ (by decide)⟩
  | archive => exact ⟨notice .control s, apart .control .archive s (by decide), stored _ s, .refl _ _⟩

theorem appendNotice_apart (h k : Half) (s : State) (ne : k ≠ h) : SameHalf k s (appendNotice h s) :=
  ⟨(appendNotice_half h k s ne).1, (appendNotice_half h k s ne).2, (appendNotice_onlyReports h s).time⟩

theorem dropNotice_apart (h k : Half) (s : State) (ne : k ≠ h) : SameHalf k s (dropNotice h s) :=
  ⟨(dropNotice_half h k s ne).1, (dropNotice_half h k s ne).2, (dropNotice_onlyReports h s).time⟩

theorem clearNotice_apart (cause : Bool) (h k : Half) (s : State) (ne : k ≠ h) : SameHalf k s (clearNotice h cause s) :=
  ⟨(clearNotice_half h k cause s ne).1, (clearNotice_half h k cause s ne).2, clearNotice_time h cause s⟩

theorem lossNotice_channels (h : Half) (s : State) : (lossNotice h s).channels = s.channels := by
  unfold lossNotice
  split <;> rfl

theorem lossNotice_apart (h k : Half) (s : State) (ne : k ≠ h) : SameHalf k s (lossNotice h s) := by
  refine ⟨by rw [lossNotice_channels], ?_, (lossNotice_onlyReports h s).time⟩
  unfold lossNotice
  split
  · exact raiseChannel_half h k .loss s ne
  · rfl

/-! ## A record written (R87, R101, R102) -/

section
variable (stamp : Stamp) (test : Bool) (body : Body) {s : State} {h : Half}

/-- A channel after the append notice of a record. -/
def Channel.counted (c : Channel) (elapsed : Nat) : Channel :=
  { c with
    unread := c.unread + 1
    offset := if c.unread = 0 then 0 else c.offset
    holdoffTimer := if c.unread = 0 ∧ c.holdoff ≠ 0 then some (elapsed + 1000 * c.holdoff.toNat) else c.holdoffTimer }

/-- A written record is announced to each half (R87). -/
theorem writeRecord_told (s : State) (h : Half) :
    ∃ u, SameHalf h s u ∧ SameHalf h (appendNotice h u) (writeRecord stamp test body s) := by
  obtain ⟨u, before, -, after⟩ := told_both appendNotice_apart appendNotice_store h { s with store := { s.store with
    records := s.store.records ++ [⟨s.store.next, stamp, test, body⟩]
    tail := s.store.tail + BitVec.ofNat 12 body.len
    next := s.store.next + 1 } }
  exact ⟨u, ⟨before.channel, before.flags, before.time⟩, after⟩

theorem writeRecord_enabled (on : (s.channels.get h).enabled = true) :
    (writeRecord stamp test body s).channels.get h = (s.channels.get h).counted s.time.elapsed ∧
    (writeRecord stamp test body s).channelCauseSet h .ready = (s.channelCauseSet h .ready ||
      decide ((s.channels.get h).unread + 1 = (s.channels.get h).threshold.toNat)) := by
  obtain ⟨u, before, after⟩ := writeRecord_told stamp test body s h
  have enabled : (u.channels.get h).enabled = true := by rw [before.channel]; exact on
  constructor
  · rw [after.channel, appendNotice_own enabled, before.channel, State.inMillis, before.time]
    rfl
  · rw [after.cause, appendNotice_ready enabled, before.channel, before.cause]

theorem writeRecord_disabled (off : (s.channels.get h).enabled = false) :
    (writeRecord stamp test body s).channels.get h = s.channels.get h ∧
    (writeRecord stamp test body s).irq.channel.get h = s.irq.channel.get h := by
  obtain ⟨u, before, after⟩ := writeRecord_told stamp test body s h
  rw [appendNotice_disabled (by rw [before.channel]; exact off)] at after
  exact ⟨after.channel.trans before.channel, after.flags.trans before.flags⟩

/-- No notice of a written record sets a cause other than READY. -/
theorem writeRecord_other {c : ChannelCause} (ne : c ≠ .ready) :
    (writeRecord stamp test body s).channelCauseSet h c = s.channelCauseSet h c := by
  obtain ⟨u, before, after⟩ := writeRecord_told stamp test body s h
  rw [after.cause, appendNotice_other h u c ne, before.cause]

end

/-! ## A record dropped (R75, R88) -/

section
variable {s : State} {h : Half}

/-- A channel after the drop notice of the record at its cursor. -/
def Channel.moved (c : Channel) : Channel :=
  { c with
    unread := c.unread - 1
    offset := 0
    missed := satInc c.missed
    holdoffTimer := if c.unread = 1 then none else c.holdoffTimer }

theorem dropOldest_records (s : State) : (dropOldest s).store.records = s.store.records.drop 1 := by simp [dropOldest]

/-- A drop is announced to each half while the record still stands first (R75, R88). -/
theorem dropOldest_told (s : State) (h : Half) :
    ∃ u, SameHalf h s u ∧ u.store = s.store ∧ SameHalf h (dropNotice h u) (dropOldest s) := by
  obtain ⟨u, before, stored, after⟩ := told_both dropNotice_apart dropNotice_store h s
  exact ⟨u, before, stored, after.channel, after.flags, after.time⟩

/-- Whether a channel's cursor is on the oldest record (R88). -/
def State.atOldest (s : State) (h : Half) : Prop :=
  (s.channels.get h).enabled = true ∧ (s.channels.get h).unread ≠ 0 ∧ (s.channels.get h).unread = s.store.records.length

theorem dropOldest_on (on : s.atOldest h) :
    (dropOldest s).channels.get h = (s.channels.get h).moved ∧ (dropOldest s).channelCauseSet h .missed = true := by
  obtain ⟨u, before, stored, after⟩ := dropOldest_told s h
  have onToo : u.atOldest h := by rw [State.atOldest, before.channel, stored]; exact on
  rw [dropNotice_on onToo] at after
  refine ⟨?_, by rw [after.cause, raiseChannel_sets]⟩
  rw [after.channel, raiseChannel_channels, setChannel_channels, PerHalf.get_set_same, before.channel]
  rfl

theorem dropOldest_elsewhere (off : ¬ s.atOldest h) :
    (dropOldest s).channels.get h = s.channels.get h ∧
    ∀ c, (dropOldest s).channelCauseSet h c = s.channelCauseSet h c := by
  obtain ⟨u, before, stored, after⟩ := dropOldest_told s h
  have offToo : ¬ u.atOldest h := by rw [State.atOldest, before.channel, stored]; exact off
  rw [dropNotice_elsewhere offToo] at after
  exact ⟨after.channel.trans before.channel, fun c => (after.cause c).trans (before.cause c)⟩

end

/-! ## Every record discarded (R80, R83, R99, R106) -/

theorem discardRecords_told (cause : Bool) (s : State) (h : Half) :
    ∃ u, SameHalf h s u ∧ SameHalf h (clearNotice h cause u) (discardRecords cause s) := by
  obtain ⟨u, before, -, after⟩ := told_both (clearNotice_apart cause) (clearNotice_store · cause) h
    { s with store := { s.store with records := [], loss := none } }
  exact ⟨u, ⟨before.channel, before.flags, before.time⟩, after⟩

theorem discardRecords_channel (cause : Bool) (s : State) (h : Half) :
    (discardRecords cause s).channels.get h = (s.channels.get h).restarted := by
  obtain ⟨u, before, after⟩ := discardRecords_told cause s h
  rw [after.channel, clearNotice_own, before.channel]
  rfl

theorem discardRecords_torn (cause : Bool) (s : State) (h : Half) :
    (discardRecords cause s).channelCauseSet h .torn = (s.channelCauseSet h .torn ||
      ((s.channels.get h).enabled && decide (0 < (s.channels.get h).offset) && cause)) := by
  obtain ⟨u, before, after⟩ := discardRecords_told cause s h
  rw [after.cause, clearNotice_torn, before.cause, before.channel]

/-- Settles O11. -/
theorem noticesMoveTheCursors : Obligations.NoticesMoveTheCursors := by
  refine ⟨fun stamp test body s h => ⟨writeRecord_enabled stamp test body, writeRecord_disabled stamp test body⟩,
    fun s h => ⟨dropOldest_records s, fun on unread oldest => ?_, fun off => dropOldest_elsewhere ?_⟩⟩
  · obtain ⟨channel, cause⟩ := dropOldest_on ⟨on, unread, oldest⟩
    rw [channel]
    exact ⟨rfl, rfl, rfl, cause⟩
  · rintro ⟨on, unread, oldest⟩
    rcases off with disabled | atEnd | newer
    · rw [on] at disabled
      cases disabled
    · exact unread atEnd
    · exact newer oldest

end Sys2Proof.Machine

/-! PROOFS. ChannelsLegal: every operation of the store and the channels keeps both channels legal, their cursors on records held
(O22). The records a channel has not consumed are the newest of the store, as many as its unread count (R86). -/
namespace Sys2Proof.Machine

/-! ## One channel in a store -/

/-- A legal channel whose unread records are held, its offset inside the oldest of them (Table 23, R86). -/
def Channel.standsIn (c : Channel) (rs : List Record) : Prop :=
  c.legal ∧ c.unread ≤ rs.length ∧ ∀ r ∈ (rs.drop (rs.length - c.unread)).head?, c.offset < r.len

/-- The cursor is on the oldest unread record (R86). -/
theorem cursorRecord_eq (s : State) (h : Half) : s.cursorRecord h =
    (s.store.records.drop (s.store.records.length - (s.channels.get h).unread)).head? := by
  unfold State.cursorRecord Channel.place
  by_cases atEnd : (s.channels.get h).unread = 0
  · simp [atEnd]
  · simp [atEnd, List.head?_drop]

theorem channelLegal_iff (s : State) (h : Half) : s.channelLegal h ↔ (s.channels.get h).standsIn s.store.records := by
  unfold State.channelLegal
  rw [cursorRecord_eq]
  exact Iff.rfl

section
variable {c : Channel} {rs : List Record}

/-- At end nothing is asked of the records. -/
theorem Channel.legal.standsAtEnd (legal : c.legal) (atEnd : c.unread = 0) (rs : List Record) : c.standsIn rs := by
  refine ⟨legal, by omega, ?_⟩
  simp [atEnd]

/-- At a header the offset is inside the record. -/
theorem Channel.legal.standsAtHeader (legal : c.legal) (held : c.unread ≤ rs.length) (header : c.offset = 0) :
    c.standsIn rs := by
  refine ⟨legal, held, fun r _ => ?_⟩
  have bounds : 6 ≤ r.len := r.body.len_bounds.1
  omega

/-- Another holdoff timer: none, or one that runs on an unread record with a nonzero holdoff (R102). -/
theorem Channel.standsIn.timed (h : c.standsIn rs) {t : Option Nat} (ok : t = none ∨ c.unread ≠ 0 ∧ c.holdoff ≠ 0) :
    { c with holdoffTimer := t }.standsIn rs := by
  obtain ⟨⟨off, atEnd, untimed, low, high⟩, held, inside⟩ := h
  refine ⟨⟨off, fun e => ⟨(atEnd e).1, ?_⟩, fun e => ?_, low, high⟩, held, inside⟩
  · exact ok.resolve_right fun ⟨unread, _⟩ => unread e
  · exact ok.resolve_right fun ⟨_, holdoff⟩ => holdoff e

/-- Consumed records are removed from the oldest end (R77). -/
theorem Channel.standsIn.drop (h : c.standsIn rs) {n : Nat} (consumed : c.unread ≤ rs.length - n) :
    c.standsIn (rs.drop n) := by
  obtain ⟨legal, held, inside⟩ := h
  by_cases atEnd : c.unread = 0
  · exact legal.standsAtEnd atEnd _
  · refine ⟨legal, by rw [List.length_drop]; exact consumed, ?_⟩
    have same : n + (rs.length - n - c.unread) = rs.length - c.unread := by omega
    rw [List.length_drop, List.drop_drop, same]
    exact inside

/-- A record more is counted (R87). -/
theorem Channel.standsIn.counted (h : c.standsIn rs) (on : c.enabled = true) (elapsed : Nat) (b : Record) :
    (c.counted elapsed).standsIn (rs ++ [b]) := by
  obtain ⟨⟨off, atEnd, untimed, low, high⟩, held, inside⟩ := h
  have legal : (c.counted elapsed).legal := by
    refine ⟨fun e => absurd (on.symm.trans e) (by decide), fun e => absurd e (Nat.succ_ne_zero _), fun e => ?_, low, high⟩
    exact (if_neg fun both => both.2 e).trans (untimed e)
  by_cases first : c.unread = 0
  · exact legal.standsAtHeader (by simp [Channel.counted, first]) (if_pos first)
  · refine ⟨legal, by simpa [Channel.counted] using held, ?_⟩
    have same : (rs ++ [b]).length - (c.counted elapsed).unread = rs.length - c.unread := by
      simp [Channel.counted]
    have offset : (c.counted elapsed).offset = c.offset := if_neg first
    rw [same, offset, List.drop_append_of_le_length (by omega), List.head?_append_of_ne_nil]
    · exact inside
    · simp only [ne_eq, List.drop_eq_nil_iff]
      omega

/-- The cursor moves past its record (R88, R90). -/
theorem Channel.legal.moved (legal : c.legal) : c.moved.legal := by
  obtain ⟨off, atEnd, untimed, low, high⟩ := legal
  refine ⟨fun e => ?_, fun e => ⟨rfl, ?_⟩, fun e => ?_, low, high⟩
  · have none_ := off e
    simp only [Channel.moved]
    omega
  · simp only [Channel.moved] at e ⊢
    split
    · rfl
    · exact (atEnd (by omega)).2
  · simp only [Channel.moved]
    split
    · rfl
    · exact untimed e

/-- A channel told of a clear (R99, R106). -/
theorem Channel.legal.restarted (legal : c.legal) : c.restarted.legal := by
  obtain ⟨-, -, -, low, high⟩ := legal
  exact ⟨fun _ => rfl, fun _ => ⟨rfl, rfl⟩, fun _ => rfl, low, high⟩

theorem Channel.reset_legal : Channel.reset.legal := by
  refine ⟨fun _ => rfl, fun _ => ⟨rfl, rfl⟩, fun _ => rfl, ?_, ?_⟩ <;> decide

end

/-! ## Both channels -/

/-- Both channels stand in the records. A structure, so that no elaboration runs the model to see a channel. -/
structure ChannelsStand (channels : PerHalf Channel) (records : List Record) : Prop where
  each : ∀ h, (channels.get h).standsIn records

/-- Both channels stand in the store. -/
def State.channelsStand (s : State) : Prop := ChannelsStand s.channels s.store.records

theorem State.channelsStand_iff (s : State) : s.channelsStand ↔ ∀ h, s.channelLegal h := by
  constructor
  · exact fun p h => (channelLegal_iff s h).mpr (p.each h)
  · exact fun legal => ⟨fun h => (channelLegal_iff s h).mp (legal h)⟩

theorem State.channelsStand.of_same {s t : State} (p : s.channelsStand) (records : t.store.records = s.store.records)
    (channels : t.channels = s.channels) : t.channelsStand := by
  unfold State.channelsStand
  rw [records, channels]
  exact p

section
variable {s : State} (p : s.channelsStand)
include p

theorem setChannel_stands (h : Half) {x : Channel} (own : x.standsIn s.store.records) : (s.setChannel h x).channelsStand := by
  refine ⟨fun k => ?_⟩
  rw [setChannel_channels]
  by_cases same : k = h
  · rw [same, PerHalf.get_set_same]; exact own
  · rw [PerHalf.get_set_other _ _ _ _ same]; exact p.each k

/-! ## Records written, dropped and reclaimed -/

theorem writeRecord_stands (stamp : Stamp) (test : Bool) (body : Body) : (writeRecord stamp test body s).channelsStand := by
  refine ⟨fun h => ?_⟩
  have stands := p.each h
  rw [writeRecord_store]
  cases enabled : (s.channels.get h).enabled with
  | true =>
    rw [(writeRecord_enabled stamp test body enabled).1]
    exact stands.counted enabled _ _
  | false =>
    rw [(writeRecord_disabled stamp test body enabled).1]
    obtain ⟨legal, -⟩ := stands
    exact legal.standsAtEnd (legal.1 enabled) _

theorem writeLoss_stands : (writeLoss s).channelsStand := by
  have closed : State.channelsStand { s with store := { s.store with loss := none } } := p
  unfold writeLoss
  split
  · exact p
  · exact writeRecord_stands closed _ _ _

theorem dropOldest_stands : (dropOldest s).channelsStand := by
  refine ⟨fun h => ?_⟩
  have stands := p.each h
  rw [dropOldest_records]
  by_cases on : s.atOldest h
  · rw [(dropOldest_on on).1]
    obtain ⟨-, -, oldest⟩ := on
    exact stands.1.moved.standsAtHeader (by rw [List.length_drop, ← oldest]; exact Nat.le_refl _) rfl
  · rw [(dropOldest_elsewhere on).1]
    refine stands.drop ?_
    obtain ⟨legal, held, -⟩ := stands
    cases enabled : (s.channels.get h).enabled with
    | false => rw [legal.1 enabled]; exact Nat.zero_le _
    | true =>
      have newer : (s.channels.get h).unread = 0 ∨ (s.channels.get h).unread ≠ s.store.records.length := by
        by_contra both
        rw [not_or, not_not] at both
        exact on ⟨enabled, both⟩
      omega

omit p in
theorem dropRecords_stands (n : Nat) {s : State} (p : s.channelsStand) : (dropRecords n s).channelsStand := by
  induction n generalizing s with
  | zero => exact p
  | succ n ih => exact ih (dropOldest_stands p)

theorem acceptAppend_stands (stamp : Stamp) (test : Bool) (body : Body) : (acceptAppend stamp test body s).2.channelsStand :=
  writeRecord_stands (writeLoss_stands p) stamp test body

omit p in
/-- No more is reclaimed than an enabled channel has consumed (R76, R78). -/
theorem reclaimable_le {h : Half} (on : (s.channels.get h).enabled = true) :
    s.reclaimable ≤ s.store.records.length - (s.channels.get h).unread := by
  unfold State.reclaimable
  dsimp only
  cases h with
  | control =>
    have enabled : s.channels.control.enabled = true := on
    rw [enabled]
    cases s.channels.archive.enabled <;> dsimp only [PerHalf.get] <;> omega
  | archive =>
    have enabled : s.channels.archive.enabled = true := on
    rw [enabled]
    cases s.channels.control.enabled <;> dsimp only [PerHalf.get] <;> omega

omit p in
/-- A refused request touches neither the records nor the channels (R70). -/
theorem refuseAppend_same (stamp : Stamp) (s : State) :
    (refuseAppend stamp s).2.store.records = s.store.records ∧ (refuseAppend stamp s).2.channels = s.channels := by
  unfold refuseAppend
  dsimp only
  split
  · exact ⟨rfl, rfl⟩
  · constructor
    · rw [lossNotice_store, lossNotice_store]
    · rw [lossNotice_channels, lossNotice_channels]

theorem append_stands (stamp : Stamp) (test : Bool) (body : Body) : (append stamp test body s).2.channelsStand := by
  obtain ⟨records, channels⟩ := refuseAppend_same stamp s
  unfold append
  split
  · exact acceptAppend_stands p _ _ _
  · split
    · exact p.of_same records channels
    · split
      · exact p.of_same records channels
      · exact acceptAppend_stands (dropRecords_stands _ p) _ _ _

/-- What a channel has not consumed is not reclaimed (R76, R78). -/
theorem unread_le_kept (h : Half) : (s.channels.get h).unread ≤ s.store.records.length - s.reclaimable := by
  obtain ⟨legal, held, -⟩ := p.each h
  cases enabled : (s.channels.get h).enabled with
  | false => rw [legal.1 enabled]; exact Nat.zero_le _
  | true =>
    have few := reclaimable_le enabled
    omega

theorem reclaim_stands : (reclaim s).channelsStand := by
  have removed : State.channelsStand { s with store := { s.store with records := s.store.records.drop s.reclaimable } } :=
    ⟨fun h => (p.each h).drop (unread_le_kept p h)⟩
  unfold reclaim
  dsimp only
  split
  · exact writeLoss_stands removed
  · exact removed

/-! ## Reading and the channel commands (sections 5.3 to 5.6) -/

theorem consume_stands (h : Half) : (consume h s).channelsStand := by
  obtain ⟨legal, held, -⟩ := p.each h
  have consumed : Channel.standsIn { s.channels.get h with
      unread := (s.channels.get h).unread - 1
      offset := 0
      holdoffTimer := if (s.channels.get h).unread = 1 then none else (s.channels.get h).holdoffTimer } s.store.records := by
    refine Channel.legal.standsAtHeader ?_ (by dsimp only; omega) rfl
    exact legal.moved
  unfold consume
  exact reclaim_stands (setChannel_stands p h consumed)

theorem readChannelData_stands (h : Half) : (readChannelData h s).channelsStand := by
  unfold readChannelData
  dsimp only
  cases found : s.deliverable h with
  | none => exact setChannel_stands p h (p.each h)
  | some r =>
    dsimp only
    split
    · next more =>
      have cursor : s.cursorRecord h = some r := by
        unfold State.deliverable at found
        split at found
        · exact found
        · cases found
      obtain ⟨⟨off, atEnd, rest⟩, held, inside⟩ := p.each h
      rw [← cursorRecord_eq, cursor] at inside
      refine setChannel_stands p h ⟨⟨off, fun e => ?_, rest⟩, held, ?_⟩
      · rw [cursorRecord_eq, e] at cursor
        simp at cursor
      · rw [← cursorRecord_eq, cursor]
        rintro _ ⟨⟩
        exact more
    · exact consume_stands p h

theorem writeThreshold_stands (h : Half) (v : Word) : (writeThreshold h v s).channelsStand := by
  obtain ⟨⟨off, atEnd, untimed, -⟩, held, inside⟩ := p.each h
  unfold writeThreshold
  dsimp only
  split
  · exact p
  · next range =>
    have low : 1 ≤ v.toNat := by omega
    have high : v.toNat ≤ 255 := by omega
    have written := setChannel_stands p h (x := { s.channels.get h with threshold := v })
      ⟨⟨off, atEnd, untimed, low, high⟩, held, inside⟩
    split
    · exact written.of_same rfl rfl
    · exact written

theorem writeHoldoff_stands (h : Half) (v : Word) : (writeHoldoff h v s).channelsStand := by
  obtain ⟨⟨off, atEnd, -, range⟩, held, inside⟩ := p.each h
  refine setChannel_stands p h ⟨⟨off, fun e => ⟨(atEnd e).1, ?_⟩, fun e => if_pos e, range⟩, held, inside⟩
  dsimp only
  split
  · rfl
  · exact (atEnd e).2

theorem readyCleared_stands (h : Half) : (readyCleared h s).channelsStand := by
  unfold readyCleared
  dsimp only
  split
  · exact p
  · next unread =>
    split
    · next holdoff => exact setChannel_stands p h ((p.each h).timed (.inr ⟨unread, holdoff⟩))
    · split
      · exact p.of_same rfl rfl
      · exact p

/-- The READY rules start the holdoff on unread records alone (R102). -/
theorem readyRules_stands (h : Half) (old : Nat) : (readyRules h old s).channelsStand := by
  refine ⟨fun k => ?_⟩
  rw [readyRules_store]
  by_cases same : k = h
  · rw [same, readyRules_own]
    split
    · next starts => exact (p.each h).timed (.inr ⟨by omega, starts.2.2⟩)
    · exact p.each h
  · rw [(readyRules_half h k old s same).1]
    exact p.each k

theorem enableFromOldest_stands (h : Half) : (enableFromOldest h s).2.channelsStand := by
  unfold enableFromOldest
  dsimp only
  split
  · exact p
  · next disabled =>
    obtain ⟨⟨off, atEnd, untimed, range⟩, -⟩ := p.each h
    have stopped : (s.channels.get h).holdoffTimer = none := (atEnd (off (Bool.eq_false_iff.mpr disabled))).2
    refine readyRules_stands (setChannel_stands p h ?_) h 0
    refine Channel.legal.standsAtHeader ?_ (Nat.le_refl _) rfl
    exact ⟨nofun, fun _ => ⟨rfl, stopped⟩, untimed, range⟩

theorem enableFromNext_stands (h : Half) : (enableFromNext h s).2.channelsStand := by
  unfold enableFromNext
  dsimp only
  split
  · exact p
  · obtain ⟨⟨-, -, -, range⟩, -⟩ := p.each h
    refine reclaim_stands (setChannel_stands p h (Channel.legal.standsAtEnd ?_ rfl _))
    exact ⟨fun _ => rfl, fun _ => ⟨rfl, rfl⟩, fun _ => rfl, range⟩

theorem disableChannel_stands (h : Half) : (disableChannel h s).2.channelsStand := by
  unfold disableChannel
  dsimp only
  split
  · obtain ⟨⟨-, -, -, range⟩, -⟩ := p.each h
    refine reclaim_stands (setChannel_stands p h (Channel.legal.standsAtEnd ?_ rfl _))
    exact ⟨fun _ => rfl, fun _ => ⟨rfl, rfl⟩, fun _ => rfl, range⟩
  · exact p

theorem skipRecord_stands (h : Half) : (skipRecord h s).2.channelsStand := by
  unfold skipRecord
  dsimp only
  split
  · exact p
  · split
    · exact p
    · exact consume_stands p h

theorem rereadRecord_stands (h : Half) : (rereadRecord h s).2.channelsStand := by
  unfold rereadRecord
  dsimp only
  split
  · exact p
  · split
    · exact p
    · obtain ⟨⟨off, atEnd, rest⟩, held, -⟩ := p.each h
      refine setChannel_stands p h (Channel.legal.standsAtHeader ?_ held rfl)
      exact ⟨off, fun e => ⟨rfl, (atEnd e).2⟩, rest⟩

/-- A state in which both channels have been told of a clear. -/
theorem restarted_stands {t : State} (told : ∀ h, t.channels.get h = (s.channels.get h).restarted) : t.channelsStand := by
  refine ⟨fun h => ?_⟩
  rw [told h]
  exact (p.each h).1.restarted.standsAtEnd rfl _

end

theorem restartBlocks_channel (s : State) (h : Half) :
    (restartBlocks s).channels.get h = (s.channels.get h).restarted := by
  rw [restartBlocks_eq]
  cases h <;> rfl

theorem holdInReset_stands (s : State) : (holdInReset s).channelsStand := by
  refine ⟨fun h => ?_⟩
  have channel : (holdInReset s).channels.get h = Channel.reset := by cases h <;> rfl
  rw [channel]
  exact Channel.reset_legal.standsAtEnd rfl _

/-! ## Every row -/

theorem storeRowsKeep_channelsStand : StoreRowsKeep State.channelsStand where
  stand p store channels := p.of_same (by rw [store]) channels
  request stamp test body _ _ p := append_stands p stamp test body
  policy _ p := p.of_same rfl rfl
  discarded cause p := restarted_stands p (discardRecords_channel cause _)
  restarted p := restarted_stands p (restartBlocks_channel _)
  held s := holdInReset_stands s
  holdoffExpires h p := setChannel_stands p h ((p.each h).timed (.inl rfl))
  readChannelData h p := readChannelData_stands p h
  statusTaken h p := setChannel_stands p h (p.each h)
  writeThreshold h v p := writeThreshold_stands p h v
  writeHoldoff h v p := writeHoldoff_stands p h v
  readyCleared h p := readyCleared_stands p h
  enableFromOldest h p := enableFromOldest_stands p h
  enableFromNext h p := enableFromNext_stands p h
  disableChannel h p := disableChannel_stands p h
  skipRecord h p := skipRecord_stands p h
  rereadRecord h p := rereadRecord_stands p h

/-- A record takes 6 words at least (R62). -/
theorem six_mul_length_le_wordsOf (rs : List Record) : 6 * rs.length ≤ wordsOf rs := by
  induction rs with
  | nil => exact Nat.le_refl _
  | cons r rs ih =>
    have bounds : 6 ≤ r.len := r.body.len_bounds.1
    rw [List.length_cons, wordsOf_cons]
    omega

/-- Settles O22: every operation of the store and the channels keeps both channels standing in the store, so every row does;
682 records leave less than the reserve. -/
theorem channelsLegalAfterEveryStep : Obligations.ChannelsLegalAfterEveryStep := by
  constructor
  · intro s t legal ran
    exact t.channelsStand_iff.mp (storeRowsKeep_channelsStand.rowsKeep.step (s.channelsStand_iff.mpr legal) ran)
  · intro s h legal reserve
    obtain ⟨-, held, -⟩ := legal
    have words := six_mul_length_le_wordsOf s.store.records
    unfold Store.keepsReserve at reserve
    omega

end Sys2Proof.Machine

/-! PROOFS. Requests: what an append request, a reclaim, SNAPSHOT and STORE CLEAR make of the store (O9, O10, O12, O13). -/
namespace Sys2Proof.Machine

/-! ## The answers of an append (R68, R69, R74) -/

section
variable {stamp : Stamp} {test : Bool} {body : Body} {s : State}

theorem append_accepted (fits : s.store.need body.len ≤ s.store.free) :
    append stamp test body s = acceptAppend stamp test body s := if_pos fits

theorem append_held (full : s.store.free < s.store.need body.len) (hold : s.store.policy = .hold) :
    append stamp test body s = refuseAppend stamp s := by
  unfold append
  rw [if_neg (Nat.not_le.mpr full), hold]

theorem append_wrapped (full : s.store.free < s.store.need body.len) (wrap : s.store.policy = .wrap) :
    append stamp test body s = if s.pinnedWithin (s.dropsFor body.len) then refuseAppend stamp s
      else acceptAppend stamp test body (dropRecords (s.dropsFor body.len) s) := by
  unfold append
  rw [if_neg (Nat.not_le.mpr full), wrap]

/-- With no loss pending the record alone is written (R66). -/
theorem acceptAppend_whole (whole : s.store.loss = none) :
    (acceptAppend stamp test body s).1 = s.store.next ∧
    (acceptAppend stamp test body s).2.store = { s.store with
      records := s.store.records ++ [⟨s.store.next, stamp, test, body⟩]
      tail := s.store.tail + BitVec.ofNat 12 body.len
      next := s.store.next + 1 } := by
  unfold acceptAppend
  rw [writeLoss_none whole]
  exact ⟨rfl, writeRecord_store stamp test body s⟩

/-- With a loss pending the LOSS record is written first (R71). -/
theorem acceptAppend_pending {p : PendingLoss} (pending : s.store.loss = some p) :
    (acceptAppend stamp test body s).1 = s.store.next + 1 ∧
    (acceptAppend stamp test body s).2.store = { s.store with
      records := s.store.records ++
        [⟨s.store.next, p.stamp, false, .loss p.first p.count⟩, ⟨s.store.next + 1, stamp, test, body⟩]
      tail := s.store.tail + 8 + BitVec.ofNat 12 body.len
      next := s.store.next + 2
      loss := none } := by
  have twice : s.store.next + 1 + 1 = s.store.next + 2 := by rw [BitVec.add_assoc]; rfl
  unfold acceptAppend
  dsimp only
  rw [writeRecord_store, writeLoss_store pending]
  dsimp only
  rw [List.append_assoc, twice]
  exact ⟨rfl, rfl⟩

/-- The loss notice sets the LOSS cause of an enabled channel (R89). -/
theorem lossNotice_cause (h : Half) (s : State) :
    (lossNotice h s).channelCauseSet h .loss = ((s.channels.get h).enabled || s.channelCauseSet h .loss) := by
  unfold lossNotice
  split
  · next on => rw [raiseChannel_sets, on, Bool.true_or]
  · next off => rw [Bool.eq_false_iff.mpr off, Bool.false_or]

/-- A refusal with no loss pending opens one, and both channels take the loss notice (R70, R89). -/
theorem refuseAppend_cause (stamp : Stamp) (whole : s.store.loss = none) (h : Half) :
    (refuseAppend stamp s).2.channelCauseSet h .loss = ((s.channels.get h).enabled || s.channelCauseSet h .loss) := by
  obtain ⟨u, before, -, after⟩ := told_both lossNotice_apart lossNotice_store h { s with store := { s.store with
    next := s.store.next + 1, loss := some ⟨s.store.next, 1, stamp⟩ } }
  unfold refuseAppend
  rw [whole]
  dsimp only
  rw [after.cause, lossNotice_cause, before.channel, before.cause]
  rfl

/-- A refusal with a loss pending extends it, and changes nothing else (R70). -/
theorem refuseAppend_pending {p : PendingLoss} (stamp : Stamp) (pending : s.store.loss = some p) :
    (refuseAppend stamp s).2 =
      { s with store := { s.store with next := s.store.next + 1, loss := some { p with count := p.count + 1 } } } := by
  unfold refuseAppend
  rw [pending]

end

/-- Settles O9. -/
theorem appendIsTakenWhole : Obligations.AppendIsTakenWhole := by
  refine ⟨fun stamp test body s => ⟨fun whole fits => ?_, fun p pending fits => ?_⟩,
    fun stamp test body s hold full => ?_⟩
  · rw [append_accepted (by rw [Store.need_eq, whole]; exact fits)]
    exact acceptAppend_whole whole
  · rw [append_accepted (by rw [Store.need_eq, pending]; exact fits)]
    exact acceptAppend_pending pending
  · rw [append_held full hold]
    exact ⟨refuseAppend_number stamp s,
      fun whole => ⟨refuseAppend_opens stamp whole, (refuseAppend_same stamp s).2, refuseAppend_cause stamp whole⟩,
      fun p pending => refuseAppend_pending stamp pending⟩

/-! ## The fewest records (R73, R74) -/

/-- One of the n oldest records is pinned when an enabled channel has its cursor on it partway (R73). -/
theorem pinnedWithin_iff (s : State) (n : Nat) : s.pinnedWithin n = true ↔
    ∃ h, (s.channels.get h).enabled = true ∧ 0 < (s.channels.get h).offset ∧
      (s.channels.get h).unread ≠ 0 ∧ s.store.records.length - (s.channels.get h).unread < n := by
  unfold State.pinnedWithin
  rw [Bool.or_eq_true, pinsWithin_iff, pinsWithin_iff]
  constructor
  · rintro (control | archive)
    · exact ⟨.control, control⟩
    · exact ⟨.archive, archive⟩
  · rintro ⟨h, pins⟩
    cases h with
    | control => exact .inl pins
    | archive => exact .inr pins

/-- A request never asks for more than an empty store has (R68). -/
theorem Store.need_le (st : Store) (body : Body) : st.need body.len ≤ 26 := by
  have bounds := body.len_bounds
  unfold Store.need
  split <;> omega

/-- Settles O10: the records dropped are those of `dropsNeeded`. -/
theorem wrapDropsTheFewestUnpinned : Obligations.WrapDropsTheFewestUnpinned := by
  refine ⟨fun stamp test body s wrap full held => ?_, pinnedWithin_iff⟩
  have answer := append_wrapped (stamp := stamp) (test := test) full wrap
  have dropped := dropRecords_store (s.dropsFor body.len) s
  refine ⟨s.dropsFor body.len, ?_, fun m fewer => dropsNeeded_fewest _ _ _ m fewer, fun unpinned whole => ?_,
    fun p unpinned pending => ?_, fun pinned => ?_⟩
  · refine dropsNeeded_enough _ _ _ ?_
    have few := s.store.need_le body
    unfold Store.free
    omega
  · rw [answer, unpinned, if_neg Bool.false_ne_true]
    obtain ⟨number, store⟩ := acceptAppend_whole (stamp := stamp) (test := test) (body := body)
      (s := dropRecords (s.dropsFor body.len) s) (by rw [dropped]; exact whole)
    rw [number, store, dropped]
    exact ⟨rfl, rfl, rfl, whole⟩
  · rw [answer, unpinned, if_neg Bool.false_ne_true]
    obtain ⟨number, store⟩ := acceptAppend_pending (stamp := stamp) (test := test) (body := body)
      (s := dropRecords (s.dropsFor body.len) s) (p := p) (by rw [dropped]; exact pending)
    rw [number, store, dropped]
    exact ⟨rfl, rfl, rfl, rfl⟩
  · rw [answer, if_pos pinned]
    refine ⟨refuseAppend_number stamp s, (refuseAppend_same stamp s).1, ?_, fun whole => ?_, fun p pending => ?_⟩
    · cases loss : s.store.loss with
      | none => rw [refuseAppend_opens stamp loss]
      | some p => rw [refuseAppend_extends stamp loss]
    · rw [refuseAppend_opens stamp whole]
    · rw [refuseAppend_extends stamp pending]

/-! ## A reclaim (R76 to R78) -/

/-- The records taken away, before a pending loss is closed. -/
def State.reclaimed (s : State) (n : Nat) : State :=
  { s with store := { s.store with records := s.store.records.drop n } }

/-- What the four cases of the enabled channels give is what is reclaimable (R76, R78). -/
theorem reclaimable_eq {s : State} {n : Nat}
    (neither : s.channels.control.enabled = false ∧ s.channels.archive.enabled = false → n = 0)
    (control : s.channels.control.enabled = true ∧ s.channels.archive.enabled = false →
      n = s.store.records.length - s.channels.control.unread)
    (archive : s.channels.control.enabled = false ∧ s.channels.archive.enabled = true →
      n = s.store.records.length - s.channels.archive.unread)
    (both : s.channels.control.enabled = true ∧ s.channels.archive.enabled = true →
      n = s.store.records.length - max s.channels.control.unread s.channels.archive.unread) : s.reclaimable = n := by
  unfold State.reclaimable
  dsimp only
  cases a : s.channels.control.enabled <;> cases b : s.channels.archive.enabled
  · exact (neither ⟨a, b⟩).symm
  · exact (archive ⟨a, b⟩).symm
  · exact (control ⟨a, b⟩).symm
  · exact (both ⟨a, b⟩).symm

theorem reclaim_eq {s : State} {n : Nat} (is : s.reclaimable = n) :
    reclaim s = if 0 < n ∧ 13 ≤ (s.reclaimed n).store.free then writeLoss (s.reclaimed n) else s.reclaimed n := by
  subst is
  rfl

/-- Settles O12. -/
theorem reclaimRemovesTheConsumed : Obligations.ReclaimRemovesTheConsumed := by
  intro s n neither control archive both
  have answer := reclaim_eq (reclaimable_eq neither control archive both)
  refine ⟨fun open_ => ?_, fun p pending some_ room => ?_⟩
  · rw [answer]
    split
    · next closes =>
      have whole : s.store.loss = none := open_.resolve_right fun stays => by
        have room : 13 ≤ 4096 - wordsOf (s.store.records.drop n) := closes.2
        have some_ := closes.1
        omega
      exact writeLoss_none whole
    · rfl
  · rw [answer, if_pos ⟨some_, room⟩, writeLoss_store (s := s.reclaimed n) (p := p) pending]
    exact ⟨rfl, rfl, rfl⟩

/-! ## SNAPSHOT and STORE CLEAR (R80, R99, R188, R189) -/

/-- The MARK of STORE CLEAR is written into the empty store (R80). -/
theorem clearStore_eq (s : State) :
    clearStore s = writeRecord s.now false (.mark 0xFFFF .control) (discardRecords true s) := by
  have whole : (discardRecords true s).store.loss = none := by rw [discardRecords_store]
  have free : (discardRecords true s).store.free = 4096 := by rw [discardRecords_store]; rfl
  have fits : (Body.mark 0xFFFF .control).len + 5 ≤ (discardRecords true s).store.free := by rw [free]; decide
  have now : (discardRecords true s).now = s.now := by
    obtain ⟨u, before, after⟩ := discardRecords_told true s .archive
    rw [State.now, after.time, clearNotice_time, before.time, State.now]
  unfold clearStore report
  dsimp only
  rw [append_fits whole fits, now]

/-- s with the store, the channels and the channels' causes of t. -/
def State.withReports (s t : State) : State :=
  { s with store := t.store, channels := t.channels, irq := { s.irq with channel := t.irq.channel } }

theorem OnlyReports.eq_withReports {s t : State} (a : OnlyReports s t) : t = s.withReports t := by
  have irq : t.irq = ⟨t.irq.channel, s.irq.system, s.irq.routes⟩ := by rw [← a.system, ← a.routes]
  unfold State.withReports
  dsimp only
  rw [← irq, ← a.lines, ← a.lineTable, ← a.profiles, ← a.time, ← a.groups, ← a.rules, ← a.exhausted, ← a.alarms, ← a.outputs,
    ← a.slots, ← a.ports, ← a.tableStatus, ← a.inReset, ← a.clockRunning, ← a.lastRead, ← a.freeIndex, ← a.pending]

theorem withReports_trans {s t u : State} (a : t = s.withReports t) (b : u = t.withReports u) : u = s.withReports u := by
  rw [a] at b
  exact b

theorem clearNotice_eq_withReports (h : Half) (cause : Bool) (s : State) :
    clearNotice h cause s = s.withReports (clearNotice h cause s) := by
  unfold clearNotice
  dsimp only
  split <;> rfl

theorem clearStore_eq_withReports (s : State) : clearStore s = s.withReports (clearStore s) := by
  refine withReports_trans ?_ (report_onlyReports _ _ _ _).eq_withReports
  refine withReports_trans ?_ (clearNotice_eq_withReports .archive true _)
  refine withReports_trans ?_ (clearNotice_eq_withReports .control true _)
  rfl

theorem clearStore_store (s : State) : (clearStore s).store = { s.store with
    records := [⟨s.store.next, s.now, false, .mark 0xFFFF .control⟩]
    tail := s.store.tail + 6
    next := s.store.next + 1
    loss := none } := by
  rw [clearStore_eq, writeRecord_store, discardRecords_store]
  rfl

section
variable {s : State} {h : Half}

/-- An enabled channel counts the MARK, torn where it was partway through a record (R99). -/
theorem clearStore_enabled (on : (s.channels.get h).enabled = true) :
    (clearStore s).channels.get h = (s.channels.get h).restarted.counted (discardRecords true s).time.elapsed ∧
    (clearStore s).channelCauseSet h .torn =
      (s.channelCauseSet h .torn || decide (0 < (s.channels.get h).offset)) := by
  have channel := discardRecords_channel true s h
  have enabled : ((discardRecords true s).channels.get h).enabled = true := by rw [channel]; exact on
  rw [clearStore_eq]
  refine ⟨?_, ?_⟩
  · rw [(writeRecord_enabled _ _ _ enabled).1, channel]
  · rw [writeRecord_other _ _ _ (by decide), discardRecords_torn, on, Bool.true_and, Bool.and_true]

/-- A disabled channel stays at end (R87). -/
theorem clearStore_disabled (off : (s.channels.get h).enabled = false) :
    (clearStore s).channels.get h = (s.channels.get h).restarted := by
  have channel := discardRecords_channel true s h
  rw [clearStore_eq, (writeRecord_disabled _ _ _ (by rw [channel]; exact off)).1, channel]

theorem exec_snapshot (running : s.inReset = false) :
    exec (.snapshot .control) s = .next ((takeSnapshot s).setSlot .control (s.slots.control.answered 0x11 0x1101)) :=
  command_next (h := .control) (act := fun _ s => controlOnly .control s (.done, takeSnapshot s)) running rfl (by decide)

theorem exec_storeClear (running : s.inReset = false) :
    exec (.storeClear .control) s = .next ((clearStore s).setSlot .control (s.slots.control.answered 0x12 0x1201)) :=
  command_next (h := .control) (act := fun _ s => controlOnly .control s (.done, clearStore s)) running rfl (by decide)

end

/-- Settles O13. -/
theorem snapshotAndStoreClear : Obligations.SnapshotAndStoreClear := by
  refine ⟨fun s running => ⟨exec_snapshot running, report_onlyReports _ _ _ _, rfl⟩, fun s running =>
    ⟨clearStore s, exec_storeClear running, clearStore_store s, fun h on => ?_, fun h off => ?_, clearStore_eq_withReports s⟩⟩
  · obtain ⟨channel, torn⟩ := clearStore_enabled on
    rw [channel, torn]
    exact ⟨rfl, rfl, by simp [Channel.counted, Channel.restarted, on], rfl, rfl⟩
  · rw [clearStore_disabled off]
    exact ⟨rfl, rfl⟩

end Sys2Proof.Machine

/-! PROOFS. The words of a record: the header's fields, the top bits of the first word, and word 5 of each kind's body. O57. -/
namespace Sys2Proof.Machine

/-! ## The first header word -/

theorem RestartCause.code_lt (x : RestartCause) : x.code < 2 := by cases x <;> decide

/-- The kind of a record is one of seventeen, never 0 (Table 46). -/
theorem Body.kind_bounds (b : Body) : 1 ≤ b.kind ∧ b.kind ≤ 17 := by
  cases b <;> exact ⟨by simp only [Body.kind]; decide, by simp only [Body.kind]; decide⟩

/-- A presence flag says whether its reference is there (R65). -/
theorem refFlags_testBit (refs : Vector (Option Word) 4) (p : Fin 4) :
    (refFlags refs).testBit p.val = (refs.get p).isSome := by
  rw [refFlags, bitsToNat_testBit, List.getD_eq_getElem _ _ (by simp), List.getElem_map]
  simp [Vector.get]

theorem refFlags_lt (refs : Vector (Option Word) 4) : refFlags refs < 16 := by
  have flags := bitsToNat_lt (refs.toList.map Option.isSome)
  rwa [List.length_map, Vector.length_toList] at flags

/-- The presence flags, or the side, take the four bits the header has for them (Table 45). -/
theorem Body.topBits_lt (b : Body) : b.topBits < 16 := by
  cases b with
  | line _ _ _ _ _ mask => exact Nat.lt_trans (Bool.toNat_lt mask.isSome) (by decide)
  | groupTrip _ _ _ _ _ ref => exact Nat.lt_trans (Bool.toNat_lt ref.isSome) (by decide)
  | matched _ _ refs => exact refFlags_lt refs
  | lapsed _ _ _ refs => exact refFlags_lt refs
  | ack _ _ _ side => exact Nat.lt_trans side.code_lt (by decide)
  | silence _ side => exact Nat.lt_trans side.code_lt (by decide)
  | mark _ side => exact Nat.lt_trans side.code_lt (by decide)
  | restart cause => cases cause <;> decide
  | _ => simp only [Body.topBits]; decide

/-- The fields of the first header word do not overlap: its value is their packed sum (Table 45). -/
theorem Record.head_toNat (r : Record) :
    r.head.toNat =
      r.body.kind + 32 * (r.len - 5) + 512 * r.test.toNat + 1024 * r.stamp.quality.code + 4096 * r.body.topBits := by
  have kind := r.body.kind_bounds
  have length : 6 ≤ r.len ∧ r.len ≤ 13 := r.body.len_bounds
  have test := Bool.toNat_lt r.test
  have quality := r.stamp.quality.code_lt
  have top := r.body.topBits_lt
  exact toWord_toNat (by omega)

/-- The fields of the first header word (Table 45). -/
theorem Record.head_fields (r : Record) :
    r.head.toNat % 32 = r.body.kind ∧ r.head.toNat / 32 % 16 + 5 = r.len ∧ r.head.getLsbD 9 = r.test ∧
      r.head.toNat / 1024 % 4 = r.stamp.quality.code ∧ r.head.toNat / 4096 = r.body.topBits := by
  have spelled := r.head_toNat
  have kind := r.body.kind_bounds
  have length : 6 ≤ r.len ∧ r.len ≤ 13 := r.body.len_bounds
  have test := Bool.toNat_lt r.test
  have quality := r.stamp.quality.code_lt
  refine ⟨?_, ?_, getLsbD_of_field ?_, ?_, ?_⟩ <;> omega

/-- The first word of a record is never 0000h: its kind is not 0 (R200). -/
theorem Record.head_ne_zero (r : Record) : r.head ≠ 0 := by
  intro zero
  obtain ⟨kindField, -⟩ := r.head_fields
  have kind := r.body.kind_bounds
  have empty : (0 : Word).toNat % 32 = 0 := rfl
  rw [zero, empty] at kindField
  omega

/-- A record is as many words long as its length says (R62). -/
theorem Record.words_length (r : Record) : r.words.length = r.len := by
  simp only [Record.words, timeWords, Record.len, Body.len, List.length_cons, List.length_append, List.length_nil]
  omega

/-! ## Word 5 of the body -/

/-- A word that two fields spell, the lower n bits wide, holds the lower in those bits and the upper in the rest. -/
theorem toWord_two_fields {n low high : Nat} (fits : low < 2 ^ n) (word : low + 2 ^ n * high < 65536) :
    (toWord (low + 2 ^ n * high)).toNat % 2 ^ n = low ∧ (toWord (low + 2 ^ n * high)).toNat / 2 ^ n = high := by
  rw [toWord_toNat word, Nat.add_mul_mod_self_left, Nat.add_mul_div_left _ _ (Nat.two_pow_pos n)]
  exact ⟨Nat.mod_eq_of_lt fits, by rw [Nat.div_eq_of_lt fits, Nat.zero_add]⟩

/-- A line in bits 0 to 4 and a level, a priority or a result above it: word 5 of the kinds about one line (Table 46). -/
theorem lineWord_fields (line : LineId) {code : Nat} (small : code < 4) :
    (toWord (line.val + 32 * code)).toNat % 32 = line.val ∧ (toWord (line.val + 32 * code)).toNat / 32 = code :=
  toWord_two_fields (n := 5) line.isLt (by have := line.isLt; omega)

/-- A flag as a number. -/
theorem toNat_eq_ite (b : Bool) : b.toNat = if b then 1 else 0 := by cases b <;> rfl

/-- The body of a LINE record (Table 46). -/
theorem line_words (line : LineId) (d : Direction) (c : BitVec 4) (p : Fin 4) (g : Option GroupId) (m : Option LineMask) :
    ∃ w, (Body.line line d c p g m).words = w :: (m.map fun k => [k.extractLsb' 0 16, k.extractLsb' 16 16]).getD [] ∧
      w.toNat % 32 = line.val ∧ w.toNat / 32 % 2 = d.code ∧ w.toNat / 64 % 4 = p.val ∧ w.toNat / 256 % 16 = c.toNat ∧
      w.toNat / 4096 = (g.map Fin.val).getD 15 := by
  have lineSmall := line.isLt
  have direction := d.code_lt
  have priority := p.isLt
  have cls := c.isLt
  have group := optionCode_lt g
  rw [← optionCode_eq]
  have spelled := toWord_toNat (n := line.val + 32 * d.code + 64 * p.val + 256 * c.toNat + 4096 * optionCode g) (by omega)
  exact ⟨_, by cases m <;> rfl, by omega, by omega, by omega, by omega, by omega⟩

/-- The body of a GROUP TRIP record (Table 46). -/
theorem groupTrip_words (g : GroupId) (d : Bool) (f : LineId) (n : Nat) (m : LineMask) (ref : Option Word) :
    ∃ w, (Body.groupTrip g d f n m ref).words = [w, m.extractLsb' 0 16, m.extractLsb' 16 16] ++ ref.toList ∧
      w.toNat % 8 = g.val ∧ w.getLsbD 3 = d ∧ w.toNat / 16 % 32 = f.val ∧ w.toNat / 512 = n % 64 := by
  have group := g.isLt
  have discontinuity := Bool.toNat_lt d
  have first := f.isLt
  have spelled := toWord_toNat (n := g.val + 8 * d.toNat + 16 * f.val + 512 * (n % 64)) (by omega)
  exact ⟨_, rfl, by omega, getLsbD_of_field (by omega), by omega, by omega⟩

/-- The body of a MATCH record (Table 46). -/
theorem matched_words (r : RuleId) (n : Nat) (refs : Vector (Option Word) 4) :
    ∃ w, (Body.matched r n refs).words = w :: refs.toList.filterMap id ∧ w.toNat % 16 = r.val ∧ w.toNat / 16 = n % 8 := by
  have rule := r.isLt
  obtain ⟨low, high⟩ := toWord_two_fields (n := 4) (high := n % 8) rule (by omega)
  exact ⟨_, rfl, low, high⟩

/-- The body of a LAPSE record: the steps taken stand in bits 8 to 11 of word 5 (Table 46). -/
theorem lapsed_words (r : RuleId) (reason : LapseReason) (steps : Vector Bool 4) (refs : Vector (Option Word) 4) :
    ∃ w, (Body.lapsed r reason steps refs).words = w :: refs.toList.filterMap id ∧ w.toNat % 16 = r.val ∧
      w.toNat / 16 % 16 = reason.code ∧ (∀ p : Fin 4, w.getLsbD (8 + p.val) = steps.get p) ∧ w.toNat / 4096 = 0 := by
  have rule := r.isLt
  have code := reason.code_lt
  have taken := bitsToNat_toList_lt steps
  have spelled := toWord_toNat (n := r.val + 16 * reason.code + 256 * bitsToNat steps.toList) (by omega)
  refine ⟨_, rfl, by omega, by omega, fun p => ?_, by omega⟩
  have small := p.isLt
  exact (toWord_getLsbD_high (n := 8) (by omega) (by omega)).trans (bitsToNat_toList_testBit steps p)

/-- The body of a TIME record: the step's 48 bits go high word first (R201, Table 46). -/
theorem time_words (kind : TimeKind) (old new : Quality) (step : BitVec 48) :
    ∃ w, (Body.time kind old new step).words =
        [w, step.extractLsb' 32 16, step.extractLsb' 16 16, step.extractLsb' 0 16] ∧
      w.toNat % 16 = kind.code ∧ w.toNat / 16 % 4 = old.code ∧ w.toNat / 64 = new.code := by
  have kindSmall := kind.code_lt
  have oldSmall := old.code_lt
  have newSmall := new.code_lt
  have spelled := toWord_toNat (n := kind.code + 16 * old.code + 64 * new.code) (by omega)
  exact ⟨_, rfl, by omega, by omega, by omega⟩

/-- Settles O57: the header's fields fit their bits, and so do those of word 5, kind by kind. -/
theorem recordWordsCarryTheHeader : Obligations.RecordWordsCarryTheHeader := by
  unfold Obligations.RecordWordsCarryTheHeader
  refine ⟨fun r => ?header, fun line d c p g m b => ?line, fun line v n b => ?levels, fun g d f n m ref k b => ?groups,
    fun r n reason steps refs b => ?rules, fun line p res tag side n b => ?operator,
    fun kind old new step first count b => ?times, fun e q a c note side cause b => ?states, ?codes⟩
  case header =>
    obtain ⟨shortest, longest⟩ := r.body.len_bounds
    obtain ⟨least, most⟩ := r.body.kind_bounds
    obtain ⟨kind, length, test, quality, top⟩ := r.head_fields
    exact ⟨shortest, longest, r.words_length, r.body.words, rfl, kind, least, most, r.head_ne_zero, length, test, quality,
      top, rfl⟩
  case line =>
    rintro rfl
    exact ⟨rfl, toNat_eq_ite m.isSome, line_words line d c p g m⟩
  case levels =>
    have levelWord := lineWord_fields line (Nat.lt_trans v.code_lt (by decide))
    refine ⟨?_, ?_, ?_, ?_⟩ <;> rintro rfl
    · exact ⟨rfl, rfl, _, rfl, levelWord⟩
    · exact ⟨rfl, rfl, rfl⟩
    · exact ⟨rfl, rfl, _, rfl, levelWord⟩
    · exact ⟨rfl, rfl, _, rfl, levelWord⟩
  case groups =>
    refine ⟨?_, ?_⟩ <;> rintro rfl
    · exact ⟨rfl, toNat_eq_ite ref.isSome, groupTrip_words g d f n m ref⟩
    · exact ⟨rfl, rfl, rfl⟩
  case rules =>
    refine ⟨?_, ?_⟩ <;> rintro rfl
    · exact ⟨rfl, refFlags_testBit refs, matched_words r n refs⟩
    · exact ⟨rfl, refFlags_testBit refs, lapsed_words r reason steps refs⟩
  case operator =>
    refine ⟨?_, ?_, ?_⟩ <;> rintro rfl
    · exact ⟨rfl, rfl, _, rfl, lineWord_fields line p.isLt⟩
    · exact ⟨rfl, rfl, _, rfl, lineWord_fields line (Nat.lt_trans res.code_lt (by decide))⟩
    · exact ⟨rfl, rfl, rfl⟩
  case times =>
    refine ⟨?_, ?_⟩ <;> rintro rfl
    · exact ⟨rfl, rfl, time_words kind old new step⟩
    · exact ⟨rfl, rfl, rfl⟩
  case states =>
    refine ⟨?_, ?_, ?_⟩ <;> rintro rfl
    · exact ⟨rfl, rfl, rfl⟩
    · exact ⟨rfl, rfl, rfl⟩
    · exact ⟨rfl, by cases cause <;> rfl, rfl⟩
  case codes => decide

end Sys2Proof.Machine

/-! PROOFS. ChannelReads: what a read of CHANNEL DATA and of CHANNEL STATUS returns and does (O15, O16, O17). -/
namespace Sys2Proof.Machine

section
variable {s : State} {h : Half} {r : Record}

/-- A read of CHANNEL DATA out of reset returns the word and does what the channel does with a read (R182). -/
theorem exec_channelDataRead (running : s.inReset = false) : exec (.channelDataRead h) s =
    .next { readChannelData h s with lastRead := s.channelDataWord h } :=
  congrArg Host.Outcome.next (readStrobe_running _ _ running)

/-- With no record to deliver, the read sets EMPTY-READ (R92). -/
theorem readChannelData_none (none_ : (s.channels.get h).enabled = false ∨ s.cursorRecord h = none) :
    readChannelData h s = s.setChannel h { s.channels.get h with emptyRead := true } := by
  have nothing : s.deliverable h = none := by
    unfold State.deliverable
    obtain off | atEnd := none_
    · exact if_neg (by simp [off])
    · rw [atEnd, ite_self]
  rw [readChannelData, nothing]

/-- With a record at the cursor, the read advances the offset or consumes the record (R91). -/
theorem readChannelData_some (on : (s.channels.get h).enabled = true) (at_ : s.cursorRecord h = some r) :
    readChannelData h s = if (s.channels.get h).offset + 1 < r.len then
      s.setChannel h { s.channels.get h with offset := (s.channels.get h).offset + 1 } else consume h s := by
  have delivers : s.deliverable h = some r := (if_pos on).trans at_
  rw [readChannelData, delivers]

/-- A read that finds a record leaves EMPTY-READ alone (R92). -/
theorem readChannelData_emptyRead (on : (s.channels.get h).enabled = true) (at_ : s.cursorRecord h = some r) :
    ((readChannelData h s).channels.get h).emptyRead = (s.channels.get h).emptyRead := by
  rw [readChannelData_some on at_]
  split
  · rw [setChannel_channels, PerHalf.get_set_same]
  · exact (consume_onlyReports h s).emptyRead h

end

/-- Settles O15: the word at the offset, then the advance or the consumption. -/
theorem channelDataReadDelivers : Obligations.ChannelDataReadDelivers := by
  intro h r s running on at_
  rw [exec_channelDataRead running, channelDataWord_some on at_, readChannelData_some on at_]
  refine ⟨fun before => ?_, fun last => ?_⟩
  · rw [if_pos before]
  · rw [if_neg (by omega), consume]

/-- Settles O16. -/
theorem emptyReadSetsItsFlag : Obligations.EmptyReadSetsItsFlag := by
  refine fun h s running => ⟨fun none_ => ?_, fun r on at_ => ?_, Record.head_ne_zero, fun v => ⟨?_, ?_⟩⟩
  · rw [exec_channelDataRead running, channelDataWord_none none_, readChannelData_none none_]
  · exact ⟨_, exec_channelDataRead running, channelDataWord_some on at_, readChannelData_emptyRead on at_⟩
  · rw [exec_registerWrite_running running, writeWord_ignored (by decide)]
  · rw [exec_registerWrite_running running, writeWord_ignored (by decide)]

/-- Settles O17: the fields of the status word, an offset below 16 among them. -/
theorem channelStatusReadClearsTwoFlags : Obligations.ChannelStatusReadClearsTwoFlags := by
  intro h s running small
  obtain ⟨enabled, atEnd, timer, torn, emptyRead, spare, offset⟩ := (s.channels.get h).statusWord_fields
  rw [Nat.mod_eq_of_lt small] at offset
  exact ⟨_, congrArg Host.Outcome.next (readStrobe_running _ _ running), enabled, atEnd, timer, torn, emptyRead, offset,
    spare⟩

end Sys2Proof.Machine

/-! PROOFS. ChannelCommands: what the channel commands do where the channel's state lets them act (O18, O19). -/
namespace Sys2Proof.Machine

/-! ## Each command -/

section
variable {s : State} {h : Half}

theorem enableFromOldest_disabled (off : (s.channels.get h).enabled = false) : enableFromOldest h s =
    (.done, readyRules h 0 (s.setChannel h { s.channels.get h with
      enabled := true, unread := s.store.records.length, offset := 0, missed := 0 })) :=
  if_neg (by simp [off])

theorem enableFromNext_disabled (off : (s.channels.get h).enabled = false) : enableFromNext h s =
    (.done, reclaim (s.setChannel h { s.channels.get h with
      enabled := true, unread := 0, offset := 0, missed := 0, holdoffTimer := none })) :=
  if_neg (by simp [off])

theorem disableChannel_enabled (on : (s.channels.get h).enabled = true) : disableChannel h s =
    (.done, reclaim (s.setChannel h { s.channels.get h with
      enabled := false, unread := 0, offset := 0, holdoffTimer := none })) :=
  if_pos on

theorem skipRecord_onRecord (on : (s.channels.get h).enabled = true) (some_ : (s.channels.get h).unread ≠ 0) :
    skipRecord h s = (.done, consume h s) := by
  simp [skipRecord, on, some_]

theorem rereadRecord_disabled (off : (s.channels.get h).enabled = false) : rereadRecord h s = (.wrongState, s) := by
  simp [rereadRecord, off]

theorem rereadRecord_atHeader (on : (s.channels.get h).enabled = true)
    (nothing : (s.channels.get h).unread = 0 ∨ (s.channels.get h).offset = 0) : rereadRecord h s = (.noEffect, s) := by
  simp [rereadRecord, on, nothing]

theorem rereadRecord_partway (on : (s.channels.get h).enabled = true) (some_ : (s.channels.get h).unread ≠ 0)
    (begun : 0 < (s.channels.get h).offset) :
    rereadRecord h s = (.done, s.setChannel h { s.channels.get h with offset := 0 }) := by
  simp [rereadRecord, on, some_, Nat.ne_of_gt begun]

end

/-! ## The READY rules, whole (R101, R102) -/

/-- A pair that differs from another at one half is the other with that half replaced. -/
theorem PerHalf.eq_set {α : Type} {p q : PerHalf α} {h : Half} {x : α} (own : p.get h = x)
    (other : ∀ k, k ≠ h → p.get k = q.get k) : p = q.set h x := by
  subst own
  cases h
  · exact congrArg (PerHalf.mk p.control) (other .archive (by decide))
  · exact congrArg (PerHalf.mk · p.archive) (other .control (by decide))

/-- The READY rules change the channels and their causes alone. -/
theorem readyRules_frame (h : Half) (old : Nat) (s : State) : readyRules h old s =
    { s with
      channels := (readyRules h old s).channels
      irq := { s.irq with channel := (readyRules h old s).irq.channel } } := by
  have frame := (readyRules_onlyReports h old s).eq_withReports
  rwa [State.withReports, readyRules_store] at frame

/-- The READY rules set READY of their half alone. -/
theorem readyRules_cause (h k : Half) (old : Nat) (s : State) (c : ChannelCause) :
    (readyRules h old s).channelCauseSet k c = (s.channelCauseSet k c || (decide (k = h ∧ c = .ready) &&
      decide (old < (s.channels.get h).threshold.toNat ∧
        (s.channels.get h).threshold.toNat ≤ (s.channels.get h).unread))) := by
  by_cases half : k = h
  · subst half
    by_cases ready : c = .ready
    · subst ready
      simp [readyRules_ready]
    · simp [readyRules_other k old s c ready, ready]
  · have stands := (readyRules_half h k old s half).2
    simp [State.channelCauseSet, stands, half]

/-- The channel of FROM OLDEST after its READY rules, and the causes (R94). -/
theorem enabledFromOldest_ready {s u : State} {h : Half} (is : u = readyRules h 0 (s.setChannel h { s.channels.get h with
      enabled := true, unread := s.store.records.length, offset := 0, missed := 0 })) :
    u.channels = s.channels.set h { s.channels.get h with
      enabled := true
      unread := s.store.records.length
      offset := 0
      missed := 0
      holdoffTimer :=
        if 0 < s.store.records.length ∧ (s.channels.get h).holdoff ≠ 0 then
          some (s.time.elapsed + 1000 * (s.channels.get h).holdoff.toNat)
        else (s.channels.get h).holdoffTimer } ∧
    ∀ k c, u.channelCauseSet k c = (s.channelCauseSet k c || (decide (k = h ∧ c = .ready) &&
      decide (0 < (s.channels.get h).threshold.toNat ∧ (s.channels.get h).threshold.toNat ≤ s.store.records.length))) := by
  subst is
  refine ⟨PerHalf.eq_set ?_ fun k ne => ?_, fun k c => ?_⟩
  · simp [readyRules_own, State.inMillis]
  · rw [(readyRules_half h k 0 _ ne).1, setChannel_channels, PerHalf.get_set_other _ _ _ _ ne]
  · simp [readyRules_cause]

/-- Settles O18: each command is answered with the state its block leaves. -/
theorem channelCommandsAct : Obligations.ChannelCommandsAct := by
  refine ⟨fun h s running off => ⟨⟨_, ?oldest, ?frame, enabledFromOldest_ready rfl⟩, ?next⟩,
    fun h s running on => ⟨?disable, fun some_ => ?skip⟩⟩
  case oldest => exact command_next running (enableFromOldest_disabled off) (by decide)
  case frame => exact readyRules_frame h 0 _
  case next => exact command_next running (enableFromNext_disabled off) (by decide)
  case disable => exact command_next running (disableChannel_enabled on) (by decide)
  case skip => exact command_next running (skipRecord_onRecord on some_) (by decide)

/-- Settles O19: the three outcomes by the channel's state. -/
theorem channelRereadReturnsToTheHeader : Obligations.ChannelRereadReturnsToTheHeader := by
  refine fun h s running => ⟨fun on some_ begun => ?_, fun on nothing => ?_, fun off => ?_⟩
  · exact command_next running (rereadRecord_partway on some_ begun) (by decide)
  · exact command_next running (rereadRecord_atHeader on nothing) (by decide)
  · exact command_next running (rereadRecord_disabled off) (by decide)

end Sys2Proof.Machine

/-! PROOFS. Causes: the READY words and the holdoff's expiry (O21), and the writes of the cause words and the routes (O24). -/
namespace Sys2Proof.Machine

/-! ## READY THRESHOLD (R100) -/

section
variable {v : Word}

/-- A threshold out of 1 to 255 is ignored. -/
theorem writeThreshold_ignored (h : Half) (s : State) (out : v = 0 ∨ 255 < v.toNat) : writeThreshold h v s = s := by
  refine if_pos (out.imp_left fun zero => ?_)
  rw [zero]
  rfl

/-- A threshold of 1 to 255 is taken. -/
theorem writeThreshold_taken (h : Half) (s : State) (some_ : v ≠ 0) (small : v.toNat ≤ 255) : writeThreshold h v s =
    if v.toNat ≤ (s.channels.get h).unread ∧ (s.channels.get h).unread < (s.channels.get h).threshold.toNat then
      raiseChannel h .ready (s.setChannel h { s.channels.get h with threshold := v })
    else s.setChannel h { s.channels.get h with threshold := v } := by
  refine if_neg ?_
  rintro (zero | large)
  · exact some_ (BitVec.eq_of_toNat_eq zero)
  · omega

end

/-- Settles O21: each write as its word takes it, then the expiry of a running timer. -/
theorem readyCoalescing : Obligations.ReadyCoalescing := by
  intro h v s running
  have written : exec (.readyThresholdWrite h v) s = .next (writeThreshold h v s) :=
    congrArg Host.Outcome.next (live_running _ running)
  refine ⟨fun out => ?_, fun some_ small => ?_, ?_, fun clock timer => ?_⟩
  · rw [written, writeThreshold_ignored h s out]
  · rw [written, writeThreshold_taken h s some_ small]
  · exact congrArg Host.Outcome.next (live_running (writeHoldoff h v s) running)
  · exact congrArg Host.Outcome.next ((timed_running _ running clock).trans (if_pos timer))

/-! ## The clear of a READY (R103, R174) -/

/-- t is s with what a clear of READY may change of one half: its channel and its READY flag. -/
structure OnlyReady (h : Half) (s t : State) : Prop where
  frame : t = { s with channels := t.channels, irq := { s.irq with channel := t.irq.channel } }
  enables : (t.irq.channel.get h).enables = (s.irq.channel.get h).enables
  flags : ∀ i : Fin 4, i ≠ 0 → (t.irq.channel.get h).flags.get i = (s.irq.channel.get h).flags.get i
  half : ∀ k, k ≠ h → t.irq.channel.get k = s.irq.channel.get k ∧ t.channels.get k = s.channels.get k

theorem OnlyReady.refl (h : Half) (s : State) : OnlyReady h s s := ⟨rfl, rfl, fun _ _ => rfl, fun _ _ => ⟨rfl, rfl⟩⟩

theorem setChannel_onlyReady (h : Half) (s : State) (x : Channel) : OnlyReady h s (s.setChannel h x) :=
  ⟨rfl, rfl, fun _ _ => rfl, fun _ ne => ⟨rfl, PerHalf.get_set_other _ _ _ _ ne⟩⟩

theorem raiseReady_onlyReady (h : Half) (s : State) : OnlyReady h s (raiseChannel h .ready s) where
  frame := rfl
  enables := by rw [raiseChannel_irq, InterruptUnit.setChannelFlag, PerHalf.get_set_same]
  flags i ne := by
    rw [raiseChannel_irq, InterruptUnit.setChannelFlag, PerHalf.get_set_same]
    exact get_put_other _ _ _ _ ne
  half k ne := ⟨raiseChannel_half h k .ready s ne, rfl⟩

section
variable {s : State} {h : Half}

/-- At end nothing follows a clear of READY (R103). -/
theorem readyCleared_atEnd (atEnd : (s.channels.get h).unread = 0) : readyCleared h s = s := if_pos atEnd

/-- A nonzero holdoff starts again (R103). -/
theorem readyCleared_holdoff (some_ : (s.channels.get h).unread ≠ 0) (holdoff : (s.channels.get h).holdoff ≠ 0) :
    readyCleared h s = s.setChannel h { s.channels.get h with
      holdoffTimer := some (s.time.elapsed + 1000 * (s.channels.get h).holdoff.toNat) } :=
  (if_neg some_).trans (if_pos holdoff)

/-- With no holdoff the count alone decides (R103). -/
theorem readyCleared_count (some_ : (s.channels.get h).unread ≠ 0) (none_ : (s.channels.get h).holdoff = 0) :
    readyCleared h s =
      if (s.channels.get h).threshold.toNat ≤ (s.channels.get h).unread then raiseChannel h .ready s else s :=
  (if_neg some_).trans (if_neg (not_not_intro none_))

theorem readyCleared_onlyReady (h : Half) (s : State) : OnlyReady h s (readyCleared h s) := by
  by_cases atEnd : (s.channels.get h).unread = 0
  · rw [readyCleared_atEnd atEnd]
    exact .refl h s
  · by_cases none_ : (s.channels.get h).holdoff = 0
    · rw [readyCleared_count atEnd none_]
      split
      · exact raiseReady_onlyReady h s
      · exact .refl h s
    · rw [readyCleared_holdoff atEnd none_]
      exact setChannel_onlyReady h s _

end

/-! ## CHANNEL CAUSES (R172 to R174) -/

/-- The state with the flags cleared and the enables taken, before the channel is told of its READY (R172, R173). -/
def State.causesWritten (s : State) (h : Half) (v : Word) : State :=
  { s with irq := { s.irq with channel := s.irq.channel.set h ((s.irq.channel.get h).written v) } }

section
variable (s : State) (h : Half) (v : Word)

theorem causesWritten_get : (s.causesWritten h v).irq.channel.get h = (s.irq.channel.get h).written v :=
  PerHalf.get_set_same _ _ _

theorem causesWritten_half (k : Half) (ne : k ≠ h) : (s.causesWritten h v).irq.channel.get k = s.irq.channel.get k :=
  PerHalf.get_set_other _ _ _ _ ne

theorem ChannelCauses.written_enables (c : ChannelCauses) (i : Fin 4) :
    (c.written v).enables.get i = v.getLsbD (8 + i.val) := by
  rw [ChannelCauses.written, get_ofFn, bit_eq_getLsbD]

theorem ChannelCauses.written_flags (c : ChannelCauses) (i : Fin 4) :
    (c.written v).flags.get i = (c.flags.get i && !v.getLsbD i.val) := by
  rw [ChannelCauses.written, get_ofFn, bit_eq_getLsbD]

theorem causesWritten_ready :
    (s.causesWritten h v).channelCauseSet h .ready = (s.channelCauseSet h .ready && !v.getLsbD 0) := by
  rw [State.channelCauseSet, causesWritten_get]
  exact ChannelCauses.written_flags v _ 0

/-- The channel is told exactly where a set READY is cleared (R174). -/
theorem writeChannelCauses_eq : writeChannelCauses h v s =
    if s.channelCauseSet h .ready && v.getLsbD 0 then readyCleared h (s.causesWritten h v) else s.causesWritten h v := by
  rw [← bit_eq_getLsbD]
  rfl

theorem writeChannelCauses_onlyReady : OnlyReady h (s.causesWritten h v) (writeChannelCauses h v s) := by
  rw [writeChannelCauses_eq]
  split
  · exact readyCleared_onlyReady h _
  · exact .refl h _

end

/-! ## SYSTEM CAUSES and SYSTEM ROUTES (R173, R175) -/

/-- The flags after a write of SYSTEM CAUSES (R173). -/
theorem clearSystem_get (u : InterruptUnit) (h : Half) (v : Word) (i : Fin 6) :
    (u.clearSystem h v).system.get i = (u.system.get i && !(v.getLsbD i.val && (u.routes.get i).clearableBy h)) := by
  rw [InterruptUnit.clearSystem, get_ofFn, bit_eq_getLsbD]

theorem Route.code_ofCode {n : Nat} (small : n < 4) : (Route.ofCode n).code = n := by
  interval_cases n <;> rfl

/-- The routes after a write of SYSTEM ROUTES, two bits for each (R175, Table 39). -/
theorem writeSystemRoutes_code (v : Word) (s : State) (i : Fin 6) :
    ((writeSystemRoutes v s).irq.routes.get i).code = v.toNat / 4 ^ i.val % 4 := by
  have four : 2 ^ 2 = 4 := rfl
  rw [writeSystemRoutes, get_ofFn, Route.code_ofCode (field_lt v _ 2), field, Nat.pow_mul, four]

/-- Settles O24: the channel's flags and enables, what a clear of READY brings about, then the system's flags and routes. -/
theorem causeWritesClearAndEnable : Obligations.CauseWritesClearAndEnable := by
  refine ⟨fun h v s running => ⟨_, congrArg Host.Outcome.next (live_running _ running), ?channel⟩,
    fun v s running => ⟨⟨_, congrArg Host.Outcome.next (live_running _ running), rfl, fun i => ?control⟩,
      ⟨_, congrArg Host.Outcome.next (live_running _ running), rfl, fun i => ?archive⟩,
      ⟨_, congrArg Host.Outcome.next (live_running _ running), rfl, writeSystemRoutes_code v s⟩⟩⟩
  case control => exact (clearSystem_get s.irq .control v i).trans (by rw [Route.clearableBy, Bool.and_true])
  case archive => exact clearSystem_get s.irq .archive v i
  case channel =>
    have only := writeChannelCauses_onlyReady s h v
    have answer := writeChannelCauses_eq s h v
    have ready := causesWritten_ready s h v
    refine ⟨only.frame, fun i => ?enables, fun i other => ?flags, fun k ne => ?half, fun quiet => ?quiet,
      fun one set => ?told⟩
    case enables => rw [only.enables, causesWritten_get, ChannelCauses.written_enables]
    case flags => rw [only.flags i other, causesWritten_get, ChannelCauses.written_flags]
    case half =>
      obtain ⟨causes, channel⟩ := only.half k ne
      exact ⟨causes.trans (causesWritten_half s h v k ne), channel⟩
    case quiet =>
      obtain zero | clear := quiet
      · rw [answer, zero, Bool.and_false, if_neg Bool.false_ne_true, ready, zero, Bool.not_false, Bool.and_true]
        exact ⟨rfl, rfl⟩
      · rw [answer, clear, Bool.false_and, if_neg Bool.false_ne_true, ready, clear, Bool.false_and]
        exact ⟨rfl, rfl⟩
    case told =>
      rw [set, one, Bool.and_self, if_pos rfl] at answer
      rw [set, one, Bool.not_true, Bool.and_false] at ready
      refine ⟨fun atEnd => ?_, fun some_ holdoff => ?_, fun some_ none_ => ?_⟩
      · rw [answer, readyCleared_atEnd (s := s.causesWritten h v) atEnd]
        exact ⟨ready, rfl⟩
      · rw [answer, readyCleared_holdoff (s := s.causesWritten h v) some_ holdoff]
        exact ⟨ready, PerHalf.get_set_same _ _ _⟩
      · rw [answer, readyCleared_count (s := s.causesWritten h v) some_ none_]
        split
        · next reached => exact ⟨by rw [raiseChannel_sets]; exact (decide_eq_true reached).symm, rfl⟩
        · next below => exact ⟨ready.trans (decide_eq_false below).symm, rfl⟩

end Sys2Proof.Machine

/-! PROOFS. EngineLaws: what a lapse, a completion, a start and the visit of a rule make of the state (Chapter 6). -/
namespace Sys2Proof.Machine

/-! ## A context lapses (R118, R119) -/

/-- A MATCH is at most 10 words long (R65, Table 20). -/
theorem Body.len_matched_le (r : RuleId) (n : Nat) (refs : Vector (Option Word) 4) : (Body.matched r n refs).len ≤ 10 := by
  have present := presentRefs_length refs
  simp only [Body.len, Body.words, List.length_cons]
  omega

/-- A LAPSE is at most 10 words long (R65, Table 20). -/
theorem Body.len_lapsed_le (r : RuleId) (reason : LapseReason) (steps : Vector Bool 4) (refs : Vector (Option Word) 4) :
    (Body.lapsed r reason steps refs).len ≤ 10 := by
  have present := presentRefs_length refs
  simp only [Body.len, Body.words, List.length_cons]
  omega

/-- A context's LAPSE record where one is wanted: always but for WINDOW, and for WINDOW with lapse recording on (R119). -/
def lapseRecorded (reason : LapseReason) (r : RuleId) (c : CorrContext) (s : State) : State :=
  if reason ≠ .window ∨ (s.rules.get r).recordLapses = true then
    report c.start c.anyTest (.lapsed r reason c.positions c.refs) s
  else s

theorem lapseRecorded_onlyReports (reason : LapseReason) (r : RuleId) (c : CorrContext) (s : State) :
    OnlyReports s (lapseRecorded reason r c s) := by
  unfold lapseRecorded
  split
  · exact report_onlyReports _ _ _ _
  · exact OnlyReports.refl s

/-- A rule whose context at a place has lapsed and is counted (R119). -/
def CorrRule.lapsedAt (x : CorrRule) (k : Nat) : CorrRule :=
  { x with contexts := x.contexts.eraseIdx k, lapseCount := satInc x.lapseCount }

section
variable {reason : LapseReason} {r : RuleId} {k : Nat} {s : State} {c : CorrContext}
  (at_ : (s.rules.get r).contexts[k]? = some c)
include at_

/-- `lapse_some` with its record named. -/
theorem lapse_eq : lapse reason r k s =
    { (lapseRecorded reason r c s).setRule r ((s.rules.get r).lapsedAt k) with exhausted := false } := by
  have recorded := lapseRecorded_onlyReports reason r c s
  unfold lapseRecorded at recorded ⊢
  unfold lapse freeContext State.setRule
  simp only [at_, get_put_same, put_put_same, recorded.rules]
  rfl

theorem lapse_rules : (lapse reason r k s).rules = put s.rules r ((s.rules.get r).lapsedAt k) := by
  rw [lapse_eq at_, ← (lapseRecorded_onlyReports reason r c s).rules]
  rfl

theorem lapse_store : (lapse reason r k s).store = (lapseRecorded reason r c s).store := by
  rw [lapse_eq at_]
  rfl

end

/-- The oldest n contexts of a rule lapse (R123). -/
theorem lapseOldest_rule (reason : LapseReason) (r : RuleId) (n : Nat) (s : State) :
    (lapseOldest reason r n s).rules.get r = (s.rules.get r).oldestLapsed n := by
  induction n generalizing s with
  | zero => exact (CorrRule.oldestLapsed_zero _).symm
  | succ n ih => exact (ih _).trans (by rw [lapse_oldest, CorrRule.oldestLapsed_add, Nat.add_comm])

/-- All of them do, and the rule holds none (R123). -/
theorem lapseOldest_all_contexts (reason : LapseReason) (r : RuleId) (s : State) :
    ((lapseOldest reason r (s.rules.get r).contexts.length s).rules.get r).contexts = [] := by
  rw [lapseOldest_rule]
  exact List.drop_length

/-! ## A context completes (R114, R115) -/

theorem requestAction_rules (a : Option OutputId) (s : State) : (requestAction a s).rules = s.rules := by cases a <;> rfl

theorem requestAction_exhausted (a : Option OutputId) (s : State) : (requestAction a s).exhausted = s.exhausted := by
  cases a <;> rfl

theorem requestAction_store (a : Option OutputId) (s : State) : (requestAction a s).store = s.store := by cases a <;> rfl

/-- A request depends on the outputs and the elapsed time alone (R158). -/
theorem requestAction_outputs_congr (a : Option OutputId) {s t : State} (outputs : t.outputs = s.outputs)
    (time : t.time = s.time) : (requestAction a t).outputs = (requestAction a s).outputs := by
  cases a with
  | none => exact outputs
  | some q =>
    show (requestPulse q t).outputs = (requestPulse q s).outputs
    unfold requestPulse
    rw [setOutput_outputs, setOutput_outputs, outputs, time]

/-- A rule whose context at a place has completed and is counted (R115). -/
def CorrRule.completedAt (x : CorrRule) (k : Nat) : CorrRule :=
  { x with contexts := x.contexts.eraseIdx k, matchCount := satInc x.matchCount }

section
variable (r : RuleId) (k : Nat) (c : CorrContext) (stamp : Stamp) (s : State)

/-- The MATCH record of a context (R115). -/
def matchRecorded : State := report stamp c.anyTest (.matched r (s.rules.get r).stepCount c.refs) s

theorem matchRecorded_onlyReports : OnlyReports s (matchRecorded r c stamp s) := report_onlyReports _ _ _ _

theorem complete_rules : (complete r k c stamp s).rules = put s.rules r ((s.rules.get r).completedAt k) := by
  have recorded := (matchRecorded_onlyReports r c stamp s).rules
  unfold matchRecorded at recorded
  unfold complete freeContext
  dsimp only
  rw [setRule_rules, requestAction_rules, setRule_rules, recorded, put_put_same, get_put_same]
  rfl

theorem complete_exhausted : (complete r k c stamp s).exhausted = false := rfl

theorem complete_outputs : (complete r k c stamp s).outputs = (requestAction (s.rules.get r).action s).outputs := by
  have recorded := matchRecorded_onlyReports r c stamp s
  unfold matchRecorded at recorded
  unfold complete freeContext
  dsimp only
  rw [setRule_outputs, recorded.rules]
  exact requestAction_outputs_congr _ recorded.outputs recorded.time

theorem complete_store : (complete r k c stamp s).store = (matchRecorded r c stamp s).store := by
  unfold complete freeContext
  dsimp only
  rw [setRule_store, requestAction_store]
  rfl

end

/-! ## A context is started, or the start refused (R116, R117) -/

section
variable {r : RuleId} {ev : CorrEvent} {p : Fin 4} {s : State}

theorem missStart_contexts (r : RuleId) (s : State) : ((missStart r s).rules.get r).contexts = (s.rules.get r).contexts := by
  unfold missStart
  rw [setRule_rules, get_put_same]

/-- A rule at its limit misses the start (R117). -/
theorem startContext_atLimit (full : (s.rules.get r).limit ≤ (s.rules.get r).contexts.length) :
    startContext r ev p s = missStart r s := if_pos full

theorem freeContexts_zero_iff (s : State) : s.freeContexts = 0 ↔ 24 ≤ s.openContexts := by
  unfold State.freeContexts
  omega

/-- With no context free the start is missed, and the first such start begins an exhaustion episode (R117). -/
theorem startContext_poolFull (room : (s.rules.get r).contexts.length < (s.rules.get r).limit) (full : 24 ≤ s.openContexts) :
    startContext r ev p s =
      if s.exhausted then missStart r s else raise .contextsExhausted { missStart r s with exhausted := true } := by
  unfold startContext
  dsimp only
  rw [if_neg (Nat.not_le.mpr room), if_pos ((freeContexts_zero_iff s).mpr full)]

/-- With one free the rule opens a context, its newest (R109, R116). -/
theorem startContext_opens (room : (s.rules.get r).contexts.length < (s.rules.get r).limit) (free : s.openContexts < 24) :
    startContext r ev p s = s.setRule r { s.rules.get r with
      contexts := (s.rules.get r).contexts ++ [startedContext (s.rules.get r) ev p s] } := by
  unfold startContext
  dsimp only
  rw [if_neg (Nat.not_le.mpr room), if_neg fun none_ => Nat.not_le.mpr free ((freeContexts_zero_iff s).mp none_)]

end

/-! ## One rule takes a line event (R111) -/

/-- A context after it has taken an event at a position (R111). -/
def CorrContext.taken (c : CorrContext) (p : Fin 4) (ev : CorrEvent) : CorrContext :=
  { c with steps := put c.steps p (some ⟨ev.ref, ev.stamp, ev.test⟩) }

/-- The state with the context at a place of a rule replaced. -/
def State.setContext (s : State) (r : RuleId) (i : Nat) (d : CorrContext) : State :=
  s.setRule r { s.rules.get r with contexts := (s.rules.get r).contexts.set i d }

section
variable {ev : CorrEvent} {r : RuleId} {s : State}

theorem visitRule_disabled (off : (s.rules.get r).enabled = false) : visitRule ev r s = (s, []) := by
  unfold visitRule
  dsimp only
  rw [off]
  rfl

section
variable (on : (s.rules.get r).enabled = true)
include on

theorem visitRule_taken {i : Nat} {p : Fin 4} {c : CorrContext}
    (first : firstAccepting (s.rules.get r) ev 0 (s.rules.get r).contexts = some (i, p))
    (at_ : (s.rules.get r).contexts[i]? = some c) : visitRule ev r s =
      if (s.rules.get r).stepCount ≤ (c.taken p ev).heldSteps.length then
        (complete r i (c.taken p ev) ev.stamp (s.setContext r i (c.taken p ev)), [])
      else (s.setContext r i (c.taken p ev), lapsesAtOnce r i (s.setContext r i (c.taken p ev))) := by
  unfold visitRule
  dsimp only
  rw [if_neg (by simp [on])]
  simp only [first, at_]
  rfl

theorem visitRule_passed (first : firstAccepting (s.rules.get r) ev 0 (s.rules.get r).contexts = none)
    (start : (s.rules.get r).startPosition ev = none) : visitRule ev r s = (s, []) := by
  unfold visitRule
  simp only [on, first, start]
  rfl

theorem visitRule_starts {p : Fin 4} (first : firstAccepting (s.rules.get r) ev 0 (s.rules.get r).contexts = none)
    (start : (s.rules.get r).startPosition ev = some p) : visitRule ev r s =
      (startContext r ev p s,
        if (s.rules.get r).contexts.length < ((startContext r ev p s).rules.get r).contexts.length then
          lapsesAtOnce r (s.rules.get r).contexts.length (startContext r ev p s)
        else []) := by
  unfold visitRule
  simp only [on, first, start]
  rfl

end

/-- What the visit of a rule can do: nothing, an enabled rule's context takes the event and completes or stays open, or an
enabled rule is asked to start a context (R111). -/
theorem visitRule_cases (ev : CorrEvent) (r : RuleId) (s : State) : (visitRule ev r s).1 = s ∨
    (∃ i c p, (s.rules.get r).enabled = true ∧ (s.rules.get r).contexts[i]? = some c ∧
      (visitRule ev r s).1 = if (s.rules.get r).stepCount ≤ (c.taken p ev).heldSteps.length then
          complete r i (c.taken p ev) ev.stamp (s.setContext r i (c.taken p ev))
        else s.setContext r i (c.taken p ev)) ∨
    ∃ p, (s.rules.get r).enabled = true ∧ (visitRule ev r s).1 = startContext r ev p s := by
  cases on : (s.rules.get r).enabled with
  | false => exact .inl (by rw [visitRule_disabled on])
  | true =>
    cases first : firstAccepting (s.rules.get r) ev 0 (s.rules.get r).contexts with
    | none =>
      cases start : (s.rules.get r).startPosition ev with
      | none => exact .inl (by rw [visitRule_passed on first start])
      | some p => exact .inr (.inr ⟨p, rfl, by rw [visitRule_starts on first start]⟩)
    | some found =>
      obtain ⟨i, p⟩ := found
      cases at_ : (s.rules.get r).contexts[i]? with
      | none =>
        refine .inl ?_
        unfold visitRule
        simp only [on, first, at_]
        rfl
      | some c =>
        refine .inr (.inl ⟨i, c, p, rfl, at_, ?_⟩)
        rw [visitRule_taken on first at_]
        split <;> rfl

end

/-! ## The steps a context holds -/

/-- A context just started holds one step (R116). -/
theorem startedContext_heldSteps (x : CorrRule) (ev : CorrEvent) (p : Fin 4) (s : State) :
    (startedContext x ev p s).heldSteps.length = 1 := by
  rw [heldSteps_eq]
  fin_cases p <;> rfl

end Sys2Proof.Machine

/-! PROOFS. EngineStands: the operations that leave the rules and the exhaustion flag alone. -/
namespace Sys2Proof.Machine

/-- Neither the rules nor the exhaustion flag have changed. -/
structure EngineStands (s t : State) : Prop where
  rules : t.rules = s.rules
  exhausted : t.exhausted = s.exhausted

theorem EngineStands.refl (s : State) : EngineStands s s := ⟨rfl, rfl⟩

theorem EngineStands.trans {s t u : State} (a : EngineStands s t) (b : EngineStands t u) : EngineStands s u :=
  ⟨b.rules.trans a.rules, b.exhausted.trans a.exhausted⟩

/-- Either of two states stands. -/
theorem EngineStands.ite {s t u : State} {c : Prop} [Decidable c] (a : EngineStands s t) (b : EngineStands s u) :
    EngineStands s (if c then t else u) := by
  split
  · exact a
  · exact b

theorem OnlyReports.engineStands {s t : State} (a : OnlyReports s t) : EngineStands s t := ⟨a.rules, a.exhausted⟩

theorem BlocksStand.engineStands {s t : State} (a : BlocksStand s t) : EngineStands s t := ⟨a.rules, a.exhausted⟩

theorem OnlyAlarms.engineStands {s t : State} (a : OnlyAlarms s t) : EngineStands s t := ⟨a.rules, a.exhausted⟩

theorem report_engineStands (stamp : Stamp) (test : Bool) (body : Body) (s : State) :
    EngineStands s (report stamp test body s) := (report_onlyReports stamp test body s).engineStands

theorem append_engineStands (stamp : Stamp) (test : Bool) (body : Body) (s : State) :
    EngineStands s (append stamp test body s).2 := (append_onlyReports stamp test body s).engineStands

theorem requestAction_engineStands (a : Option OutputId) (s : State) : EngineStands s (requestAction a s) :=
  ⟨requestAction_rules a s, requestAction_exhausted a s⟩

theorem setLine_engineStands (s : State) (l : LineId) (x : LineState) : EngineStands s (s.setLine l x) := ⟨rfl, rfl⟩

theorem setGroup_engineStands (s : State) (g : GroupId) (x : FirstOutGroup) : EngineStands s (s.setGroup g x) := ⟨rfl, rfl⟩

theorem raise_engineStands (c : SystemCause) (s : State) : EngineStands s (raise c s) := ⟨rfl, rfl⟩

/-! ## Groups -/

theorem resolveGroup_engineStands (g : GroupId) (d : Bool) (s : State) : EngineStands s (resolveGroup g d s) :=
  have kept := resolveGroup_resolved g d s
  ⟨kept.rules, kept.exhausted⟩

theorem groupDeparture_engineStands (g : GroupId) (c : Candidate) (s : State) : EngineStands s (groupDeparture g c s) := by
  unfold groupDeparture
  dsimp only
  split
  · exact .ite ((setGroup_engineStands s g _).trans (resolveGroup_engineStands g false _)) (setGroup_engineStands s g _)
  · exact .ite (.refl s) (setGroup_engineStands s g _)
  · exact setGroup_engineStands s g _

theorem handGroup_engineStands (g : Option GroupId) (c : Candidate) (s : State) : EngineStands s (handGroup g c s) := by
  cases g with
  | none => exact .refl s
  | some g => exact groupDeparture_engineStands g c s

theorem clearGroup_engineStands (g : GroupId) (s : State) : EngineStands s (clearGroup g s) :=
  (report_engineStands s.now false _ s).trans (setGroup_engineStands _ g _)

/-! ## The Alarm List -/

theorem setEntries_engineStands (s : State) (es : List AlarmEntry) : EngineStands s (s.setEntries es) := ⟨rfl, rfl⟩

theorem ackRecord_engineStands (l : LineId) (r : AckResult) (test : Bool) (tag : Word) (side : Half) (s : State) :
    EngineStands s (ackRecord l r test tag side s) := .ite (report_engineStands _ _ _ s) (.refl s)

theorem ackEntry_engineStands (tag : Word) (side : Half) (l : LineId) (s : State) :
    EngineStands s (ackEntry tag side l s).2 := by
  unfold ackEntry
  split
  · exact .refl s
  · split
    · exact (setEntries_engineStands s _).trans (ackRecord_engineStands _ _ _ _ _ _)
    · exact (setEntries_engineStands s _).trans (ackRecord_engineStands _ _ _ _ _ _)
    · exact .refl s

theorem ackEntries_engineStands (tag : Word) (side : Half) (ls : List LineId) (r : Bool × State) :
    EngineStands r.2 (ackEntries tag side ls r).2 := by
  induction ls generalizing r with
  | nil => exact .refl _
  | cons l ls ih =>
    exact (ackEntry_engineStands tag side l r.2).trans
      (ih (r.1 || (ackEntry tag side l r.2).1, (ackEntry tag side l r.2).2))

theorem acknowledged_engineStands (r : Bool × State) : EngineStands r.2 (acknowledged r).2 := by
  unfold acknowledged
  split
  · exact ⟨rfl, rfl⟩
  · exact .refl _

theorem silenceEntries_engineStands (side : Half) (s : State) : EngineStands s (silenceEntries side s) :=
  (setEntries_handed_onlyAlarms s _).engineStands.trans (report_engineStands s.now false _ _)

theorem escalate_engineStands (e : AlarmEntry) (s : State) : EngineStands s (escalate e s) := by
  unfold escalate
  dsimp only
  refine EngineStands.trans ?_ (setEntries_engineStands _ _)
  refine EngineStands.trans ?_ (requestAction_engineStands _ _)
  refine EngineStands.trans ?_ (raise_engineStands _ _)
  exact (setEntries_handed_onlyAlarms s _).engineStands.trans (report_engineStands _ _ _ _)

/-! ## The classifier passes the engine departures and returns alone (Table 17) -/

theorem recordChange_engineStands (wanted : Bool) (l : LineId) (d : Direction) (stamp : Stamp) (test : Bool) (s : State) :
    EngineStands s (recordChange wanted l d stamp test s).2 := by
  cases wanted with
  | true => exact append_engineStands _ _ _ s
  | false => exact .refl s

theorem classifyInitial_engineStands (l : LineId) (v : Level) (stamp : Stamp) (test : Bool) (s : State) :
    EngineStands s (classifyInitial l v stamp test s) :=
  have recorded := append_engineStands stamp test (.armed l v) s
  .ite recorded (recorded.trans (alarmDeparture_apart _ _).engineStands)

theorem classifyChatterOn_engineStands (l : LineId) (v : Level) (stamp : Stamp) (test : Bool) (s : State) :
    EngineStands s (classifyChatterOn l v stamp test s) :=
  have recorded := (append_engineStands stamp test (.chatterOn l v) s).trans (raise_engineStands .chatter _)
  .ite recorded (recorded.trans (alarmChatterOn_onlyAlarms _ _).engineStands)

theorem classifyChatterOff_engineStands (l : LineId) (v : Level) (n : Word) (stamp : Stamp) (test : Bool) (s : State) :
    EngineStands s (classifyChatterOff l v n stamp test s) :=
  have recorded := append_engineStands stamp test (.chatterOff l v n) s
  .ite recorded (recorded.trans (alarmChatterOff_onlyAlarms _ _ _).engineStands)

theorem classifyDisarmed_engineStands (l : LineId) (stamp : Stamp) (test : Bool) (s : State) :
    EngineStands s (classifyDisarmed l stamp test s) :=
  have recorded := report_engineStands stamp test (.disarmed l) s
  .ite recorded (recorded.trans (alarmWithdraw_onlyAlarms _ _).engineStands)

/-! ## The conditioner reaches the engine by departures and returns alone -/

theorem countTransition_engineStands (l : LineId) (edge : Stamp) (s : State) : EngineStands s (countTransition l edge s) := by
  refine .ite (.refl s) (.ite ?_ (setLine_engineStands s l _))
  rw [enterChatter_eq]
  exact (setLine_engineStands s l _).trans (classifyChatterOn_engineStands _ _ _ _ _)

theorem qualifySettling_engineStands (l : LineId) (s : State) : EngineStands s (qualifySettling l s) :=
  (setLine_engineStands s l _).trans (classifyInitial_engineStands _ _ _ _ _)

theorem releaseLine_engineStands (l : LineId) (s : State) : EngineStands s (releaseLine l s) :=
  (setLine_engineStands s l _).trans (classifyChatterOff_engineStands _ _ _ _ _ _)

theorem armDisarmed_engineStands (l : LineId) (s : State) : EngineStands s (armDisarmed l s) :=
  .ite ((setLine_engineStands s l _).trans (qualifySettling_engineStands l _)) (setLine_engineStands s l _)

theorem disarmArmed_engineStands (l : LineId) (s : State) : EngineStands s (disarmArmed l s) :=
  (classifyDisarmed_engineStands _ _ _ _).trans (setLine_engineStands _ l _)

theorem settleLines_engineStands (ls : List LineId) (s : State) : EngineStands s (settleLines ls s) := by
  induction ls generalizing s with
  | nil => exact .refl s
  | cons l ls ih => exact (qualifySettling_engineStands l s).trans (ih _)

/-! ## The Time Base, before its notice -/

theorem setTime_engineStands (s : State) (t : TimeBase) : EngineStands s { s with time := t } := ⟨rfl, rfl⟩

/-- A change of quality after a change of the Time Base. -/
theorem changeQuality_timed_engineStands (q : Quality) (t : TimeBase) (s : State) :
    EngineStands s (changeQuality q { s with time := t }) :=
  (setTime_engineStands s t).trans (changeQuality_blocksStand q _).engineStands

end Sys2Proof.Machine

/-! PROOFS. EngineLegal: every rule is legal and the pool of contexts holds no more than 24, kept by every operation (Table 27,
R107, R109, R114, R117), so by every step (O41). -/
namespace Sys2Proof.Machine

/-! ## The pool (R109) -/

/-- How many contexts the rules of a table hold open. -/
def contextsOpen (rules : Vector CorrRule 16) : Nat := ∑ r, (rules.get r).contexts.length

theorem openContexts_eq (s : State) : s.openContexts = contextsOpen s.rules := by
  have listed : s.rules.toList = (List.finRange 16).map s.rules.get := by
    apply List.ext_getElem
    · simp
    · intro i _ _
      simp [Vector.get]
  rw [State.openContexts, listed, List.map_map, contextsOpen, Fin.sum_univ_def]
  rfl

/-- A rule replaced gives back the contexts it held and takes those it now holds. -/
theorem contextsOpen_put (rules : Vector CorrRule 16) (r : RuleId) (y : CorrRule) :
    contextsOpen (put rules r y) + (rules.get r).contexts.length = contextsOpen rules + y.contexts.length := by
  have others : ∀ k ∈ ({r}ᶜ : Finset RuleId), ((put rules r y).get k).contexts.length = (rules.get k).contexts.length :=
    fun k ne => by rw [get_put_other _ _ _ _ (by simpa using ne)]
  unfold contextsOpen
  rw [Fintype.sum_eq_add_sum_compl r, Fintype.sum_eq_add_sum_compl r fun k => (rules.get k).contexts.length,
    Finset.sum_congr rfl others, get_put_same]
  omega

/-- Rules that hold no context leave the whole pool free. -/
theorem contextsOpen_empty {rules : Vector CorrRule 16} (none_ : ∀ r, (rules.get r).contexts = []) : contextsOpen rules = 0 :=
  Finset.sum_eq_zero fun r _ => by rw [none_ r, List.length_nil]

/-! ## One rule -/

section
variable {x : CorrRule}

/-- A legal rule with other contexts and counts. -/
theorem CorrRule.legal.recontexted (h : x.legal) {cs : List CorrContext} (m l k : Word) (room : cs.length ≤ x.limit)
    (off : x.enabled = false → cs = []) (unfinished : ∀ c ∈ cs, c.heldSteps.length < x.stepCount) :
    { x with contexts := cs, matchCount := m, lapseCount := l, missedStarts := k }.legal := by
  obtain ⟨two, four, one, most, window, -, -, -⟩ := h
  exact ⟨two, four, one, most, window, room, off, unfinished⟩

theorem CorrRule.legal.off_contexts (h : x.legal) (off : x.enabled = false) : x.contexts = [] := by
  obtain ⟨-, -, -, -, -, -, none_, -⟩ := h
  exact none_ off

/-- A legal rule with one context less. -/
theorem CorrRule.legal.freed (h : x.legal) (i : Nat) (m l : Word) :
    { x with contexts := x.contexts.eraseIdx i, matchCount := m, lapseCount := l }.legal := by
  obtain ⟨-, -, -, -, -, room, off, unfinished⟩ := id h
  refine h.recontexted m l x.missedStarts ((List.length_eraseIdx_le _ i).trans room) (fun none_ => ?_)
    fun c inside => unfinished c (List.mem_of_mem_eraseIdx inside)
  rw [off none_, List.eraseIdx_nil]

/-- A legal rule that misses a start (R117). -/
theorem CorrRule.legal.missed (h : x.legal) (k : Word) : { x with missedStarts := k }.legal := by
  obtain ⟨-, -, -, -, -, room, off, unfinished⟩ := id h
  exact h.recontexted x.matchCount x.lapseCount k room off unfinished

/-- A legal rule in which a context that stays open has advanced (R114). -/
theorem CorrRule.legal.advanced (h : x.legal) (on : x.enabled = true) (i : Nat) {d : CorrContext}
    (short : d.heldSteps.length < x.stepCount) : { x with contexts := x.contexts.set i d }.legal := by
  obtain ⟨-, -, -, -, -, room, -, unfinished⟩ := id h
  refine h.recontexted x.matchCount x.lapseCount x.missedStarts (by rwa [List.length_set])
    (fun off => absurd (on.symm.trans off) (by decide)) fun c inside => ?_
  obtain old | rfl := List.mem_or_eq_of_mem_set inside
  · exact unfinished c old
  · exact short

/-- A legal rule that has opened a context with one step matched (R116). -/
theorem CorrRule.legal.opened (h : x.legal) (on : x.enabled = true) (room : x.contexts.length < x.limit) {d : CorrContext}
    (one : d.heldSteps.length = 1) : { x with contexts := x.contexts ++ [d] }.legal := by
  obtain ⟨two, -, -, -, -, -, -, unfinished⟩ := id h
  refine h.recontexted x.matchCount x.lapseCount x.missedStarts ?_ (fun off => absurd (on.symm.trans off) (by decide))
    fun c inside => ?_
  · rw [List.length_append, List.length_singleton]
    exact room
  · obtain old | new := List.mem_append.mp inside
    · exact unfinished c old
    · rw [List.mem_singleton.mp new, one]
      exact two

/-- A legal rule that is enabled, its counts cleared (R121). -/
theorem CorrRule.legal.switchedOn (h : x.legal) (m l k : Word) :
    { x with enabled := true, matchCount := m, lapseCount := l, missedStarts := k }.legal := by
  obtain ⟨two, four, one, most, window, room, -, unfinished⟩ := h
  exact ⟨two, four, one, most, window, room, fun off => absurd (show true = false from off) (by decide), unfinished⟩

/-- A rule in range that holds no context is legal, enabled or not. -/
theorem CorrRule.legal_of_empty (steps : 2 ≤ x.stepCount ∧ x.stepCount ≤ 4) (limit : 1 ≤ x.limit ∧ x.limit ≤ 4)
    (window : x.window ≠ 0) (none_ : x.contexts = []) : x.legal := by
  refine ⟨steps.1, steps.2, limit.1, limit.2, window, ?_, fun _ => none_, ?_⟩
  · rw [none_]; exact Nat.zero_le _
  · rw [none_]; exact fun c inside => absurd inside List.not_mem_nil

/-- A legal rule that has lost its contexts, whatever its flag. -/
theorem CorrRule.legal.emptied (h : x.legal) (e : Bool) : { x with contexts := [], enabled := e }.legal := by
  obtain ⟨two, four, one, most, window, -, -, -⟩ := h
  exact CorrRule.legal_of_empty ⟨two, four⟩ ⟨one, most⟩ window rfl

/-- A word written to RULE word 0 is refused where a field is out of range (Table 44). -/
theorem CorrRule.setWord0_legal (h : x.legal) (off : x.enabled = false) {w : Word} {y : CorrRule}
    (taken : x.setWord0 w = some y) : y.legal ∧ y.contexts = x.contexts := by
  have none_ := h.off_contexts off
  obtain ⟨-, -, -, -, window, -, -, -⟩ := h
  unfold CorrRule.setWord0 at taken
  split at taken
  · cases taken
  · next inRange =>
    obtain ⟨a, -, rfl⟩ := Option.map_eq_some_iff.mp taken
    refine ⟨CorrRule.legal_of_empty ⟨?_, ?_⟩ ⟨?_, ?_⟩ window none_, rfl⟩ <;> dsimp only <;> omega

/-- A disabled rule stays legal under every word that is accepted, and gets no context by it (R107, R108). -/
theorem CorrRule.setWord_legal (h : x.legal) (off : x.enabled = false) {n : Nat} {w : Word} {y : CorrRule}
    (taken : x.setWord n w = some y) : y.legal ∧ y.contexts = x.contexts := by
  have word0 : x.setWord0 w = some y → y.legal ∧ y.contexts = x.contexts := CorrRule.setWord0_legal h off
  have none_ := h.off_contexts off
  obtain ⟨two, four, one, most, window, -, -, -⟩ := h
  have stepped : ∀ p, (x.setStep p w).legal ∧ (x.setStep p w).contexts = x.contexts :=
    fun p => ⟨CorrRule.legal_of_empty ⟨two, four⟩ ⟨one, most⟩ window none_, rfl⟩
  unfold CorrRule.setWord at taken
  split at taken
  · exact word0 taken
  · cases taken; exact stepped 0
  · cases taken; exact stepped 1
  · cases taken; exact stepped 2
  · cases taken; exact stepped 3
  · split at taken
    · cases taken
    · next nonzero => cases taken; exact ⟨CorrRule.legal_of_empty ⟨two, four⟩ ⟨one, most⟩ nonzero none_, rfl⟩
  · cases taken; exact ⟨CorrRule.legal_of_empty ⟨two, four⟩ ⟨one, most⟩ window none_, rfl⟩
  · cases taken

end

/-! ## The rules and the pool together -/

/-- Every rule is legal, the pool holds no more than 24 contexts, and an exhaustion episode stands only while all are open. A
structure, so that no elaboration runs the model to see the rules. -/
structure EngineTableLegal (rules : Vector CorrRule 16) (exhausted : Bool) : Prop where
  each : ∀ r, (rules.get r).legal
  pool : contextsOpen rules ≤ 24
  episode : exhausted = true → contextsOpen rules = 24

/-- The rules and the pool are legal (R107, R109, R114, R117). -/
def State.engineLegal (s : State) : Prop := EngineTableLegal s.rules s.exhausted

theorem State.engineLegal_iff (s : State) : s.engineLegal ↔ (∀ r, (s.rules.get r).legal) ∧ s.poolLegal := by
  unfold State.poolLegal
  rw [openContexts_eq]
  exact ⟨fun h => ⟨h.each, h.pool, h.episode⟩, fun ⟨each, pool, episode⟩ => ⟨each, pool, episode⟩⟩

/-- What leaves the engine alone keeps it legal. -/
theorem State.engineLegal.of_stands {s t : State} (h : s.engineLegal) (same : EngineStands s t) : t.engineLegal := by
  unfold State.engineLegal
  rw [same.rules, same.exhausted]
  exact h

section
variable {rules : Vector CorrRule 16} {exhausted : Bool} (h : EngineTableLegal rules exhausted) {r : RuleId} {y : CorrRule}
  (own : y.legal)
include h own

theorem EngineTableLegal.put_each (k : RuleId) : ((put rules r y).get k).legal := by
  by_cases same : k = r
  · rw [same, get_put_same]; exact own
  · rw [get_put_other _ _ _ _ same]; exact h.each k

/-- A rule with no more contexts than it had, and no exhaustion episode (R117). -/
theorem EngineTableLegal.freed (fewer : y.contexts.length ≤ (rules.get r).contexts.length) :
    EngineTableLegal (put rules r y) false := by
  have count := contextsOpen_put rules r y
  have pool := h.pool
  exact ⟨h.put_each own, by omega, fun begun => absurd begun (by decide)⟩

/-- A rule with as many contexts as it had. -/
theorem EngineTableLegal.replaced (same : y.contexts.length = (rules.get r).contexts.length) :
    EngineTableLegal (put rules r y) exhausted := by
  have count := contextsOpen_put rules r y
  have stands : contextsOpen (put rules r y) = contextsOpen rules := by omega
  exact ⟨h.put_each own, stands.trans_le h.pool, fun begun => stands.trans (h.episode begun)⟩

/-- A rule with one context more, which the pool had free: so there was no exhaustion episode. -/
theorem EngineTableLegal.opened (more : y.contexts.length = (rules.get r).contexts.length + 1)
    (free : contextsOpen rules < 24) : EngineTableLegal (put rules r y) exhausted := by
  have count := contextsOpen_put rules r y
  exact ⟨h.put_each own, by omega, fun begun => absurd (h.episode begun) (by omega)⟩

end

/-- An exhaustion episode may begin when no context is free (R117). -/
theorem EngineTableLegal.begun {rules : Vector CorrRule 16} {exhausted : Bool} (h : EngineTableLegal rules exhausted)
    (full : 24 ≤ contextsOpen rules) : EngineTableLegal rules true := ⟨h.each, h.pool, fun _ => Nat.le_antisymm h.pool full⟩

/-- Rules none of which holds a context. -/
theorem EngineTableLegal.of_empty {rules : Vector CorrRule 16} (each : ∀ r, (rules.get r).legal)
    (none_ : ∀ r, (rules.get r).contexts = []) : EngineTableLegal rules false :=
  ⟨each, by rw [contextsOpen_empty none_]; exact Nat.zero_le _, fun begun => absurd begun (by decide)⟩

/-! ## The engine -/

section
variable {s : State} (h : s.engineLegal)
include h

theorem lapse_engineLegal (reason : LapseReason) (r : RuleId) (k : Nat) : (lapse reason r k s).engineLegal := by
  cases at_ : (s.rules.get r).contexts[k]? with
  | none => rw [lapse_none at_]; exact h
  | some c =>
    unfold State.engineLegal
    rw [lapse_rules at_, lapse_exhausted_false (.inr (by rw [at_]; rfl))]
    exact h.freed ((h.each r).freed k _ _) (List.length_eraseIdx_le _ k)

/-- A context that has taken its last step is freed, so no complete one stays open (R114). -/
theorem complete_engineLegal (r : RuleId) (i : Nat) (c d : CorrContext) (stamp : Stamp) :
    (complete r i c stamp (s.setContext r i d)).engineLegal := by
  unfold State.engineLegal State.setContext
  rw [complete_rules, complete_exhausted, setRule_rules, get_put_same, put_put_same]
  unfold CorrRule.completedAt
  dsimp only
  rw [List.eraseIdx_set_eq]
  exact h.freed ((h.each r).freed i _ _) (List.length_eraseIdx_le _ i)

theorem setContext_engineLegal {r : RuleId} {d : CorrContext} (i : Nat) (on : (s.rules.get r).enabled = true)
    (short : d.heldSteps.length < (s.rules.get r).stepCount) : (s.setContext r i d).engineLegal :=
  h.replaced ((h.each r).advanced on i short) List.length_set

theorem missStart_engineLegal (r : RuleId) : (missStart r s).engineLegal := h.replaced ((h.each r).missed _) rfl

theorem startContext_engineLegal {r : RuleId} (on : (s.rules.get r).enabled = true) (ev : CorrEvent) (p : Fin 4) :
    (startContext r ev p s).engineLegal := by
  have missed := missStart_engineLegal h r
  by_cases room : (s.rules.get r).contexts.length < (s.rules.get r).limit
  · by_cases free : s.openContexts < 24
    · rw [startContext_opens room free]
      rw [openContexts_eq] at free
      exact h.opened ((h.each r).opened on room (startedContext_heldSteps _ _ _ _)) List.length_append free
    · rw [startContext_poolFull room (Nat.not_lt.mp free)]
      split
      · exact missed
      · rw [openContexts_eq, Nat.not_lt] at free
        have count := contextsOpen_put s.rules r { s.rules.get r with missedStarts := satInc (s.rules.get r).missedStarts }
        exact missed.begun (by unfold missStart; rw [setRule_rules]; dsimp only at count; omega)
  · rw [startContext_atLimit (Nat.not_lt.mp room)]
    exact missed

theorem visitRule_engineLegal (ev : CorrEvent) (r : RuleId) : (visitRule ev r s).1.engineLegal := by
  obtain is | ⟨i, c, p, on, at_, is⟩ | ⟨p, on, is⟩ := visitRule_cases ev r s
  · rw [is]; exact h
  · rw [is]
    split
    · exact complete_engineLegal h r i _ _ _
    · next short => exact setContext_engineLegal h i on (Nat.not_le.mp short)
  · rw [is]; exact startContext_engineLegal h on ev p

end

theorem visitRules_engineLegal (ev : CorrEvent) (rs : List RuleId) {s : State} (h : s.engineLegal) :
    (visitRules ev rs s).1.engineLegal := by
  induction rs generalizing s with
  | nil => exact h
  | cons r rs ih => exact ih (visitRule_engineLegal h ev r)

theorem lapseAll_engineLegal (items : List (RuleId × Nat)) {s : State} (h : s.engineLegal) :
    (lapseAll items s).engineLegal := by
  induction items generalizing s with
  | nil => exact h
  | cons item rest ih => exact ih (lapse_engineLegal h .window item.1 item.2)

theorem setFreeIndex_engineLegal {s : State} (h : s.engineLegal) (n : Nat) :
    ({ s with freeIndex := n } : State).engineLegal := h

theorem correlate_engineLegal (ev : CorrEvent) {s : State} (h : s.engineLegal) : (correlate ev s).engineLegal := by
  unfold correlate
  dsimp only
  refine lapseAll_engineLegal _ ?_
  exact setFreeIndex_engineLegal (visitRules_engineLegal ev (List.finRange 16) h) _

theorem lapseOldest_engineLegal (reason : LapseReason) (r : RuleId) (n : Nat) {s : State} (h : s.engineLegal) :
    (lapseOldest reason r n s).engineLegal := by
  induction n generalizing s with
  | zero => exact h
  | succ n ih => exact ih (lapse_engineLegal h reason r 0)

theorem disableRule_engineLegal (r : RuleId) {s : State} (h : s.engineLegal) : (disableRule r s).engineLegal := by
  have ended := lapseOldest_engineLegal .disabled r (s.rules.get r).contexts.length h
  have none_ := lapseOldest_all_contexts .disabled r s
  refine ended.replaced ?_ rfl
  have own := (ended.each r).emptied false
  rwa [← none_] at own

theorem ruleEnable_engineLegal (r : RuleId) {s : State} (h : s.engineLegal) : (ruleEnable r s).2.engineLegal := by
  unfold ruleEnable
  split
  · exact h
  · exact h.replaced ((h.each r).switchedOn 0 0 0) rfl

/-! ## The Time Base sends the discontinuity notice (R124) -/

theorem noticeActions_engineLegal (items : List (GroupId ⊕ RuleId)) {s : State} (h : s.engineLegal) :
    (noticeActions items s).engineLegal := by
  induction items generalizing s with
  | nil => exact h
  | cons a rest ih =>
    cases a with
    | inl g => exact ih (h.of_stands (resolveGroup_engineStands g true s))
    | inr r => exact ih (lapse_engineLegal h .timeStep r 0)

theorem discontinuityNotice_engineLegal {s : State} (h : s.engineLegal) : (discontinuityNotice s).engineLegal := by
  rw [discontinuityNotice_eq]
  exact noticeActions_engineLegal _ (h.of_stands ⟨rfl, rfl⟩)

section
variable {s : State} (h : s.engineLegal)
include h

theorem alignCounter_engineLegal (beyond : Quality) : (alignCounter beyond s).engineLegal := by
  by_cases near : (pulseOffset s.time.counter).natAbs ≤ s.time.stepLimit.toNat
  · rw [alignCounter_within near]
    exact h.of_stands ((correctCounter_blocksStand _ s).trans (changeQuality_blocksStand _ _)).engineStands
  · rw [alignCounter_beyond (Nat.not_le.mp near), stepCounter_eq]
    refine discontinuityNotice_engineLegal (h.of_stands ?_)
    refine EngineStands.trans ?_ (changeQuality_blocksStand _ _).engineStands
    exact (setTime_engineStands s _).trans (report_engineStands _ _ _ _)

theorem takePulse_engineLegal : (takePulse s).engineLegal := by
  have aligned : ∀ beyond, (alignCounter beyond s.unheld).engineLegal := alignCounter_engineLegal (s := s.unheld) h
  unfold takePulse
  cases s.time.quality with
  | free => exact h
  | acquiring =>
    dsimp only
    split
    · exact aligned .locked
    · exact h
  | locked => exact aligned .acquiring
  | holdover => exact aligned .acquiring

theorem setCounter_engineLegal (v : Timestamp) : (setCounter v s).engineLegal := by
  rw [setCounter_eq]
  refine discontinuityNotice_engineLegal (h.of_stands ?_)
  refine EngineStands.trans ?_ (changeQuality_blocksStand _ _).engineStands
  exact (setTime_engineStands s _).trans (report_engineStands _ _ _ _)

/-! ## Departures and returns -/

theorem classifyDepart_engineLegal (l : LineId) (stamp : Stamp) (test : Bool) :
    (classifyDepart l stamp test s).engineLegal := by
  rw [classifyDepart_eq]
  unfold routeDepart
  dsimp only
  have recorded := h.of_stands (recordChange_engineStands (s.lineTable.get l).recordDepartures l .depart stamp test s)
  have correlated := fun ev => correlate_engineLegal ev (recorded.of_stands (handGroup_engineStands (s.lineTable.get l).group
    ⟨l, stamp, test, (recordChange (s.lineTable.get l).recordDepartures l .depart stamp test s).1⟩ _))
  refine State.engineLegal.of_stands ?_ (requestAction_engineStands _ _)
  exact (correlated _).of_stands (.ite (.refl _) (alarmDeparture_apart _ _).engineStands)

theorem classifyReturn_engineLegal (l : LineId) (stamp : Stamp) (test : Bool) :
    (classifyReturn l stamp test s).engineLegal := by
  rw [classifyReturn_eq]
  unfold routeReturn
  dsimp only
  have recorded := h.of_stands (recordChange_engineStands (s.lineTable.get l).recordReturns l .giveBack stamp test s)
  refine State.engineLegal.of_stands ?_ (requestAction_engineStands _ _)
  exact (correlate_engineLegal _ recorded).of_stands (.ite (.refl _) (alarmReturn_onlyAlarms _ _).engineStands)

variable (l : LineId)

theorem qualifyDeparture_engineLegal : (qualifyDeparture l s).engineLegal := by
  rw [qualifyDeparture_eq]
  exact (classifyDepart_engineLegal (h.of_stands (setLine_engineStands s l _)) l _ _).of_stands
    (countTransition_engineStands _ _ _)

theorem qualifyReturn_engineLegal : (qualifyReturn l s).engineLegal := by
  rw [qualifyReturn_eq]
  exact (classifyReturn_engineLegal (h.of_stands (setLine_engineStands s l _)) l _ _).of_stands
    (countTransition_engineStands _ _ _)

theorem takeChange_engineLegal : (takeChange l s).engineLegal := by
  unfold takeChange
  split
  · exact h
  · exact h
  · split
    · exact qualifyDeparture_engineLegal (h.of_stands (setLine_engineStands s l _)) l
    · exact h
  · exact h
  · split
    · exact qualifyReturn_engineLegal (h.of_stands (setLine_engineStands s l _)) l
    · exact h
  · exact h
  · exact h

theorem observeLevel_engineLegal : (observeLevel l s).engineLegal := by
  unfold observeLevel
  dsimp only
  split
  · exact h
  · exact takeChange_engineLegal (h.of_stands (setLine_engineStands s l _)) l

end

/-! ## The tables and the resets -/

/-- A write of a table that holds nothing of the rules, when it is accepted. -/
theorem acceptOr_engineLegal {α : Type} {s t : State} {o : Option α} {f : α → State} (h : s.engineLegal)
    (taken : acceptOr o f = .accepted t) (stands : ∀ x, EngineStands s (f x)) : t.engineLegal := by
  cases o with
  | none => cases taken
  | some x => cases taken; exact h.of_stands (stands x)

/-- A rule's words are written only while it is disabled (R108); the other tables hold nothing of the rules (Table 42). -/
theorem writeTable_engineLegal {s t : State} {p : PortAddress} {w : Word} (h : s.engineLegal)
    (taken : writeTable s p w = .accepted t) : t.engineLegal := by
  unfold writeTable at taken
  split at taken
  · unfold writeLineEntry at taken
    split at taken
    · cases taken
    · split at taken
      · cases taken
      · exact acceptOr_engineLegal h taken fun _ => ⟨rfl, rfl⟩
  · unfold writeProfile at taken
    split at taken
    · cases taken
    · exact acceptOr_engineLegal h taken fun _ => ⟨rfl, rfl⟩
  · unfold writeGroup at taken
    split at taken
    · cases taken
    · split at taken
      · cases taken
      · cases taken; exact h
  · unfold writeRule at taken
    split at taken
    · cases taken
    · split at taken
      · cases taken
      · next off =>
        cases word : (s.rules.get (Fin.ofNat 16 p.index)).setWord p.offset w with
        | none => rw [word] at taken; cases taken
        | some y =>
          rw [word] at taken
          cases taken
          obtain ⟨own, contexts⟩ := CorrRule.setWord_legal (h.each _) (by simpa using off) word
          exact h.replaced own (by rw [contexts])
  · unfold writeOutput at taken
    split at taken
    · cases taken
    · exact acceptOr_engineLegal h taken fun _ => ⟨rfl, rfl⟩
  · exact acceptOr_engineLegal h taken fun _ => ⟨rfl, rfl⟩
  · cases taken

theorem writeTableData_engineLegal {s : State} (h : s.engineLegal) (w : Word) : (writeTableData w s).engineLegal := by
  unfold writeTableData
  cases judged : writeTable s s.ports.control w with
  | accepted t => exact (writeTable_engineLegal h judged).of_stands ⟨rfl, rfl⟩
  | refused reason => exact h
  | ignored => exact h

/-- RESTART frees every context (R128). -/
theorem restartPart_engineLegal {s : State} (h : s.engineLegal) : (restartPart s).engineLegal := by
  rw [restartPart_eq]
  have blocks : (restartBlocks s).engineLegal := by
    rw [restartBlocks_eq]
    refine EngineTableLegal.of_empty (fun r => ?_) fun r => ?_
    · rw [get_map]
      exact (h.each r).emptied (s.rules.get r).enabled
    · rw [get_map]
  exact blocks.of_stands ((restartRecorded_reports s).engineStands.trans (settleLines_engineStands _ _))

/-- Every rule at its hardware reset value (R127). -/
theorem holdInReset_engineLegal (s : State) : (holdInReset s).engineLegal := by
  have held : ∀ r, (holdInReset s).rules.get r = CorrRule.reset := get_replicate CorrRule.reset
  exact EngineTableLegal.of_empty (fun r => (held r).symm ▸ CorrRule.reset_legal) fun r => (held r).symm ▸ rfl

/-! ## Every row -/

/-- Every operation that a row asks of a block keeps the engine legal. -/
theorem rowsKeep_engineLegal : RowsKeep State.engineLegal where
  pending _ h := h
  freeIndex _ h := h
  lastRead _ h := h
  setSlot _ _ h := h
  tick _ h := h
  sampledInReset _ _ _ h := h
  sampled l _ _ h := observeLevel_engineLegal (h.of_stands (setLine_engineStands _ l _)) l
  qualifySettling l _ _ h := h.of_stands (qualifySettling_engineStands l _)
  qualifyDeparture l _ _ h := qualifyDeparture_engineLegal h l
  qualifyReturn l _ _ h := qualifyReturn_engineLegal h l
  closeWindow _ _ h := h
  releaseLine l _ _ h := h.of_stands (releaseLine_engineStands l _)
  takePulse _ _ h := takePulse_engineLegal h
  superviseEnds _ _ h := h.of_stands (superviseEnds_blocksStand _).engineStands
  holdAbsorbed _ h := h
  resolveGroup g _ _ h := h.of_stands (resolveGroup_engineStands g false _)
  lapse r k _ h := lapse_engineLegal h .window r k
  escalate _ e _ _ _ h := h.of_stands (escalate_engineStands e _)
  lengthExpires _ _ _ h := h
  gapExpires _ _ _ h := h
  holdoffExpires _ _ _ h := h
  flashPhase _ h := h.of_stands ⟨rfl, rfl⟩
  readChannelData half _ h := h.of_stands (readChannelData_blocksStand half _).engineStands
  statusTaken _ _ h := h
  latchTime _ _ h := h
  stepPort _ _ h := h
  clearTableStatus _ h := h
  writeTableData w _ h := writeTableData_engineLegal h w
  writePortAddress half w _ h := h.of_stands (writePortAddress_blocksStand half w _).engineStands
  writeStoreControl _ _ h := h
  writeTimeControl v _ h := h.of_stands (writeTimeControl_blocksStand v _).engineStands
  writeTolerance v _ h := h.of_stands (writeTolerance_blocksStand v _).engineStands
  writeStepLimit v _ h := h.of_stands (writeStepLimit_blocksStand v _).engineStands
  writeSetHigh _ _ h := h
  writeAckRecording _ _ h := h
  writeOutputData _ _ h := h
  writeThreshold half v _ h := h.of_stands (writeThreshold_blocksStand half v _).engineStands
  writeHoldoff _ _ _ h := h
  writeChannelCauses half v _ h := h.of_stands (writeChannelCauses_blocksStand half v _).engineStands
  writeSystemCauses _ _ _ h := h
  writeSystemRoutes _ _ h := h
  armLine l _ _ h := h.of_stands (armDisarmed_engineStands l _)
  disarmLine l _ _ h := h.of_stands (disarmArmed_engineStands l _)
  injectLevel l _ _ _ h := observeLevel_engineLegal (h.of_stands (setLine_engineStands _ l _)) l
  clearGroup g _ _ h := h.of_stands (clearGroup_engineStands g _)
  ruleEnable r _ h := ruleEnable_engineLegal r h
  disableRule r _ h := disableRule_engineLegal r h
  setCounter v _ h := setCounter_engineLegal h v
  takeSnapshot _ h := h.of_stands (report_engineStands _ _ _ _)
  clearStore _ h := h.of_stands (clearStore_blocksStand _).engineStands
  requestPulse _ _ h := h
  ackLine tag half l _ h := h.of_stands ((ackEntry_engineStands tag half l _).trans (acknowledged_engineStands _))
  ackAll tag half _ h := h.of_stands ((ackEntries_engineStands tag half _ (false, _)).trans (acknowledged_engineStands _))
  silenceEntries half _ h := h.of_stands (silenceEntries_engineStands half _)
  mark _ _ _ h := h.of_stands (report_engineStands _ _ _ _)
  restartPart _ h := restartPart_engineLegal h
  enableFromOldest half _ h := h.of_stands (enableFromOldest_blocksStand half _).engineStands
  enableFromNext half _ h := h.of_stands (enableFromNext_blocksStand half _).engineStands
  disableChannel half _ h := h.of_stands (disableChannel_blocksStand half _).engineStands
  skipRecord half _ h := h.of_stands (skipRecord_blocksStand half _).engineStands
  rereadRecord half _ h := h.of_stands (rereadRecord_blocksStand half _).engineStands
  holdInReset _ := holdInReset_engineLegal _
  releaseReset {s} _ := State.engineLegal.of_stands (s := { Machine.holdInReset s with inReset := false })
    (holdInReset_engineLegal s) (report_engineStands _ _ _ _)

/-- Settles O41: every operation keeps every rule and the pool legal, so every step does. -/
theorem rulesLegalAfterEveryStep : Obligations.RulesLegalAfterEveryStep :=
  fun s t legal ran => (t.engineLegal_iff).mp (rowsKeep_engineLegal.step (s.engineLegal_iff.mpr legal) ran)

end Sys2Proof.Machine

/-! PROOFS. RuleCommands: RULE ENABLE, and RULE DISABLE with its LAPSE records (O39). -/
namespace Sys2Proof.Machine

/-! ## What a LAPSE record says of its context (R119) -/

theorem CorrContext.anyTest_eq (c : CorrContext) : c.anyTest = c.steps.toList.any fun k => k.any StepHeld.test := by
  unfold CorrContext.anyTest CorrContext.heldSteps
  rw [List.any_filterMap]
  refine congrArg (List.any _) (funext fun k => ?_)
  cases k <;> rfl

theorem CorrContext.positions_eq (c : CorrContext) : c.positions = c.steps.map Option.isSome := by
  unfold CorrContext.positions
  ext i lt
  simp [Vector.get]

theorem CorrContext.refs_eq (c : CorrContext) : c.refs = c.steps.map fun k => k.bind StepHeld.ref := by
  unfold CorrContext.refs
  ext1 i lt
  simp [Vector.get]

/-- The LAPSE record of a context (R119). -/
def CorrContext.lapseRecord (c : CorrContext) (r : RuleId) (reason : LapseReason) (number : Word) : Record :=
  ⟨number, c.start, c.anyTest, .lapsed r reason c.positions c.refs⟩

/-- With room in the store a lapse that is recorded appends its record alone (R66, R119). -/
theorem lapse_written {reason : LapseReason} {r : RuleId} {k : Nat} {s : State} {c : CorrContext}
    (at_ : (s.rules.get r).contexts[k]? = some c) (wanted : reason ≠ .window ∨ (s.rules.get r).recordLapses = true)
    (whole : s.store.loss = none) (room : 15 ≤ s.store.free) : (lapse reason r k s).store =
      s.store.written c.start c.anyTest (.lapsed r reason c.positions c.refs) := by
  have short := Body.len_lapsed_le r reason c.positions c.refs
  rw [lapse_store at_, lapseRecorded, if_pos wanted, report_fits whole (by omega)]

/-! ## The oldest contexts of a rule lapse (R123) -/

theorem RuleLapsed.trans {r : RuleId} {s t u : State} (a : RuleLapsed r s t) (b : RuleLapsed r t u) : RuleLapsed r s u where
  others k ne := (b.others k ne).trans (a.others k ne)
  groups := b.groups.trans a.groups
  alarms := b.alarms.trans a.alarms
  outputs := b.outputs.trans a.outputs

theorem lapseOldest_lapsed (reason : LapseReason) (r : RuleId) (n : Nat) (s : State) :
    RuleLapsed r s (lapseOldest reason r n s) := by
  induction n generalizing s with
  | zero => exact ⟨fun _ _ => rfl, rfl, rfl, rfl⟩
  | succ n ih => exact (lapse_lapsed reason r 0 s).trans (ih _)

theorem lapseOldest_exhausted_false (reason : LapseReason) (r : RuleId) (n : Nat) {s : State} (h : s.exhausted = false) :
    (lapseOldest reason r n s).exhausted = false := by
  induction n generalizing s with
  | zero => exact h
  | succ n ih => exact ih (lapse_exhausted_false (.inl h))

/-- The end of every open context of a rule that has one ends an exhaustion episode (R117). -/
theorem lapseOldest_exhausted_ends (reason : LapseReason) {r : RuleId} {s : State} (some_ : (s.rules.get r).contexts ≠ []) :
    (lapseOldest reason r (s.rules.get r).contexts.length s).exhausted = false := by
  obtain ⟨c, cs, is⟩ := List.exists_cons_of_ne_nil some_
  rw [is, List.length_cons, lapseOldest]
  exact lapseOldest_exhausted_false reason r _ (lapse_exhausted_false (.inr (by rw [is]; rfl)))

/-- With room for them all, the contexts' records are appended oldest first, under consecutive numbers: the context at place i
of the rule takes base + i (R66, R123). -/
theorem lapseOldest_records {reason : LapseReason} (wanted : reason ≠ .window) (r : RuleId) (base : Word)
    (cs : List CorrContext) (i : Nat) {s : State} (contexts : (s.rules.get r).contexts = cs)
    (next : s.store.next = base + BitVec.ofNat 16 i) (whole : s.store.loss = none)
    (room : 10 * cs.length + 5 ≤ s.store.free) : (lapseOldest reason r cs.length s).store.records =
      s.store.records ++ (cs.zipIdx i).map fun p => p.1.lapseRecord r reason (base + BitVec.ofNat 16 p.2) := by
  induction cs generalizing i s with
  | nil => exact (List.append_nil _).symm
  | cons c cs ih =>
    rw [List.length_cons] at room
    have written := lapse_written (k := 0) (by rw [contexts]; rfl) (.inl wanted) whole (by omega)
    have rest : ((lapse reason r 0 s).rules.get r).contexts = cs := by
      rw [lapse_oldest, CorrRule.oldestLapsed, contexts]
      rfl
    have short := Body.len_lapsed_le r reason c.positions c.refs
    have left : 10 * cs.length + 5 ≤ (lapse reason r 0 s).store.free := by
      rw [written, Store.written_free]
      omega
    have second : (lapse reason r 0 s).store.next = base + BitVec.ofNat 16 (i + 1) := by
      rw [written, BitVec.ofNat_add, ← BitVec.add_assoc, ← next]
      rfl
    have none_ : (lapse reason r 0 s).store.loss = none := by rw [written]; exact whole
    have first : (lapse reason r 0 s).store.records =
        s.store.records ++ [c.lapseRecord r reason (base + BitVec.ofNat 16 i)] := by
      rw [written, ← next]
      rfl
    rw [List.length_cons, lapseOldest, ih (i + 1) rest second none_ left, first, List.zipIdx_cons, List.map_cons,
      List.append_assoc, List.singleton_append]

/-! ## The commands (R121, R123) -/

theorem ruleEnable_off {r : RuleId} {s : State} (off : (s.rules.get r).enabled = false) : ruleEnable r s =
    (.done, s.setRule r { s.rules.get r with enabled := true, matchCount := 0, lapseCount := 0, missedStarts := 0 }) :=
  if_neg (by simp [off])

theorem ruleEnable_on {r : RuleId} {s : State} (on : (s.rules.get r).enabled = true) : ruleEnable r s = (.noEffect, s) :=
  if_pos on

theorem ruleDisable_off {r : RuleId} {s : State} (off : (s.rules.get r).enabled = false) :
    ruleDisable r s = (.noEffect, s) := if_neg (by simp [off])

theorem ruleDisable_on {r : RuleId} {s : State} (on : (s.rules.get r).enabled = true) :
    ruleDisable r s = (.done, disableRule r s) := if_pos on

section
variable {r : RuleId} {s t : State} {c : ResultCode} {result : Word} (running : s.inReset = false)
  (at_ : s.slots.control.arg0.toNat = r.val)
include running at_

theorem exec_ruleEnable (acted : ruleEnable r s = (c, t)) (word : resultWord c 0x0C = result) :
    exec (.ruleEnable .control) s = .next (t.setSlot .control (s.slots.control.answered 0x0C result)) := by
  refine command_next running ?_ word
  show controlOnly .control s (withOperand (operand 16 s.slots.control.arg0) s fun r => ruleEnable r s) = _
  rw [controlOnly_control, operand_inRange r at_, withOperand_some, acted]

theorem exec_ruleDisable (acted : ruleDisable r s = (c, t)) (word : resultWord c 0x0D = result) :
    exec (.ruleDisable .control) s = .next (t.setSlot .control (s.slots.control.answered 0x0D result)) := by
  refine command_next running ?_ word
  show controlOnly .control s (withOperand (operand 16 s.slots.control.arg0) s fun r => ruleDisable r s) = _
  rw [controlOnly_control, operand_inRange r at_, withOperand_some, acted]

end

/-- A rule after RULE DISABLE: its contexts ended and counted, its flag cleared (R123). -/
theorem disableRule_rule (r : RuleId) (s : State) : (disableRule r s).rules.get r = { s.rules.get r with
    enabled := false
    contexts := []
    lapseCount := satAdd (s.rules.get r).lapseCount (s.rules.get r).contexts.length } := by
  unfold disableRule
  dsimp only
  rw [setRule_rules, get_put_same, lapseOldest_rule, CorrRule.oldestLapsed, List.drop_length, Nat.min_self]

/-- The other rules, the groups, the Alarm List and the outputs stand. -/
theorem disableRule_lapsed (r : RuleId) (s : State) : RuleLapsed r s (disableRule r s) :=
  (lapseOldest_lapsed .disabled r _ s).trans ⟨fun _ ne => get_put_other _ _ _ _ ne, rfl, rfl, rfl⟩

/-- Settles O39. -/
theorem ruleEnableAndDisable : Obligations.RuleEnableAndDisable := by
  rintro r s x running at_ rfl
  refine ⟨fun off => ⟨?_, ?_⟩, fun on => ⟨?_, disableRule r s, ?_, disableRule_rule r s, ?_⟩⟩
  · exact exec_ruleEnable running at_ (ruleEnable_off off) (by decide)
  · exact exec_ruleDisable running at_ (ruleDisable_off off) (by decide)
  · exact exec_ruleEnable running at_ (ruleEnable_on on) (by decide)
  · exact exec_ruleDisable running at_ (ruleDisable_on on) (by decide)
  · have lapsed := disableRule_lapsed r s
    have ended := lapseOldest_handled .disabled r (s.rules.get r).contexts.length s
    refine ⟨lapsed.others, ended.lines, lapsed.alarms, lapsed.groups, lapsed.outputs, ended.events.time,
      lapseOldest_exhausted_ends .disabled, fun whole room => ?_⟩
    have records := lapseOldest_records (reason := .disabled) (by decide) r s.store.next _ 0 rfl (BitVec.add_zero _).symm
      whole room
    refine records.trans (congrArg _ (List.map_congr_left fun ⟨c, i⟩ _ => ?_))
    simp only [CorrContext.lapseRecord, c.anyTest_eq, c.positions_eq, c.refs_eq]

end Sys2Proof.Machine

/-! PROOFS. Contexts: a line event advances or starts contexts, and a context ends by its lapse timer or by a match (O40). -/
namespace Sys2Proof.Machine

/-! ## The end of a context (R114, R115, R117 to R119) -/

/-- Out of reset and with CLK running the expiry of a lapse timer is the context's lapse (R118). -/
theorem exec_lapseTimerExpiry {r : RuleId} {place : Nat} {s : State} (running : s.inReset = false)
    (clock : s.clockRunning = true) : exec (.lapseTimerExpiry r place) s = .next (lapse .window r place s) :=
  congrArg Host.Outcome.next (timed_running _ running clock)

/-- A lapse changes the rules and the exhaustion flag, and else what its record changes (R117, R119). -/
theorem lapse_onlyReports {reason : LapseReason} {r : RuleId} {k : Nat} {s : State} {c : CorrContext}
    (at_ : (s.rules.get r).contexts[k]? = some c) :
    OnlyReports s { lapse reason r k s with rules := s.rules, exhausted := s.exhausted } := by
  have recorded := lapseRecorded_onlyReports reason r c s
  have same : { lapse reason r k s with rules := s.rules, exhausted := s.exhausted } = lapseRecorded reason r c s := by
    rw [lapse_eq at_, ← recorded.rules, ← recorded.exhausted]
    rfl
  rw [same]
  exact recorded

/-- A lapse for WINDOW without lapse recording leaves the store alone (R119). -/
theorem lapse_unrecorded {r : RuleId} {k : Nat} {s : State} {c : CorrContext}
    (at_ : (s.rules.get r).contexts[k]? = some c) (off : (s.rules.get r).recordLapses = false) :
    (lapse .window r k s).store = s.store := by
  rw [lapse_store at_, lapseRecorded, if_neg (by simp [off])]

/-- With room in the store a match appends its MATCH record alone (R66, R115). -/
theorem complete_written {r : RuleId} {k : Nat} {c : CorrContext} {stamp : Stamp} {s : State} (whole : s.store.loss = none)
    (room : 15 ≤ s.store.free) : (complete r k c stamp s).store =
      s.store.written stamp c.anyTest (.matched r (s.rules.get r).stepCount c.refs) := by
  have short := Body.len_matched_le r (s.rules.get r).stepCount c.refs
  rw [complete_store, matchRecorded, report_fits whole (by omega)]

/-! ## The position at which a context accepts an event (R112, R113, R116) -/

section
variable {x : CorrRule} {ev : CorrEvent} {c : CorrContext} {p : Fin 4}

/-- A context that holds the first steps and no other has matched as many, the last of them the newest in order (R112). -/
theorem heldSteps_initial {k : Nat} {last : Fin 4} {held : StepHeld}
    (first : ∀ q : Fin 4, (c.steps.get q).isSome = decide (q.val < k)) (is : last.val + 1 = k)
    (newest : c.steps.get last = some held) : c.heldSteps.length = k ∧ c.heldSteps.getLast? = some held := by
  have full : ∀ q : Fin 4, q.val < k → ∃ h, c.steps.get q = some h := fun q lt =>
    Option.isSome_iff_exists.mp (by rw [first q, decide_eq_true lt])
  have empty : ∀ q : Fin 4, k ≤ q.val → c.steps.get q = none := fun q le =>
    Option.isNone_iff_eq_none.mp (by rw [← Option.not_isSome, first q, decide_eq_false (Nat.not_lt.mpr le), Bool.not_false])
  subst is
  rw [heldSteps_eq]
  match last, newest with
  | 0, newest =>
    rw [newest, empty 1 (by decide), empty 2 (by decide), empty 3 (by decide)]
    exact ⟨rfl, rfl⟩
  | 1, newest =>
    obtain ⟨a, zero⟩ := full 0 (by decide)
    rw [zero, newest, empty 2 (by decide), empty 3 (by decide)]
    exact ⟨rfl, rfl⟩
  | 2, newest =>
    obtain ⟨a, zero⟩ := full 0 (by decide)
    obtain ⟨b, one⟩ := full 1 (by decide)
    rw [zero, one, newest, empty 3 (by decide)]
    exact ⟨rfl, rfl⟩
  | 3, newest =>
    obtain ⟨a, zero⟩ := full 0 (by decide)
    obtain ⟨b, one⟩ := full 1 (by decide)
    obtain ⟨d, two⟩ := full 2 (by decide)
    rw [zero, one, two, newest]
    exact ⟨rfl, rfl⟩

/-- A position that does not name the event, where it is a step of the rule. -/
theorem stepNames_eq_false_iff (inside : p.val < x.stepCount) :
    x.stepNames ev p = false ↔ x.steps.get p ≠ ⟨ev.line, ev.direction⟩ := by
  rw [← Bool.not_eq_true, stepNames_iff]
  simp [inside]

/-- An ordered rule's context accepts at the position after its last, by its deadline and not before its last edge (R112). -/
theorem accepts_ordered_iff {k : Nat} {held : StepHeld} (ordered : x.ordered = true) (count : c.heldSteps.length = k)
    (newest : c.heldSteps.getLast? = some held) : x.accepts ev c = some p ↔ p.val = k ∧ k < x.stepCount ∧
      x.steps.get p = ⟨ev.line, ev.direction⟩ ∧ ev.stamp.time ≤ c.deadline ∧ held.stamp.time ≤ ev.stamp.time := by
  have edge : c.lastEdge = held.stamp.time := by rw [CorrContext.lastEdge, newest]
  have position : ((List.finRange 4).find? fun q => q.val = k && x.stepNames ev q) = some p ↔
      p.val = k ∧ k < x.stepCount ∧ x.steps.get p = ⟨ev.line, ev.direction⟩ := by
    rw [find_position, Bool.and_eq_true, decide_eq_true_iff, stepNames_iff]
    constructor
    · rintro ⟨⟨rfl, inside, names⟩, -⟩
      exact ⟨rfl, inside, names⟩
    · rintro ⟨rfl, inside, names⟩
      refine ⟨⟨rfl, inside, names⟩, fun q lt => ?_⟩
      rw [decide_eq_false (by omega), Bool.false_and]
  rw [CorrRule.accepts, if_pos ordered, edge, count]
  split
  · next late => simp [BitVec.not_le.mpr late]
  · next timely =>
    split
    · next after => simp [position, BitVec.not_lt.mp timely, after]
    · next before => simp [before]

/-- Of the positions of a search, those below the one found do not name the event. -/
theorem below_not_named {free : Fin 4 → Bool} (inside : p.val < x.stepCount) :
    (∀ q, q < p → (free q && x.stepNames ev q) = false) ↔
      ∀ q, q < p → free q = true → x.steps.get q ≠ ⟨ev.line, ev.direction⟩ := by
  refine forall_congr' fun q => imp_congr_right fun lt => ?_
  rw [Bool.and_eq_false_imp, stepNames_eq_false_iff (Nat.lt_trans lt inside)]

/-- An unordered rule's context accepts at its lowest unmatched position that names the event, by its deadline (R113). -/
theorem accepts_unordered_iff (unordered : x.ordered = false) : x.accepts ev c = some p ↔ p.val < x.stepCount ∧
    x.steps.get p = ⟨ev.line, ev.direction⟩ ∧ c.steps.get p = none ∧ ev.stamp.time ≤ c.deadline ∧
    ∀ q, q < p → c.steps.get q = none → x.steps.get q ≠ ⟨ev.line, ev.direction⟩ := by
  have position : ((List.finRange 4).find? fun q => (c.steps.get q).isNone && x.stepNames ev q) = some p ↔
      p.val < x.stepCount ∧ x.steps.get p = ⟨ev.line, ev.direction⟩ ∧ c.steps.get p = none ∧
      ∀ q, q < p → c.steps.get q = none → x.steps.get q ≠ ⟨ev.line, ev.direction⟩ := by
    rw [find_position, Bool.and_eq_true, stepNames_iff, Option.isNone_iff_eq_none]
    constructor
    · rintro ⟨⟨unmatched, inside, names⟩, lowest⟩
      exact ⟨inside, names, unmatched, by simpa using (below_not_named inside).mp lowest⟩
    · rintro ⟨inside, names, unmatched, lowest⟩
      exact ⟨⟨unmatched, inside, names⟩, (below_not_named inside).mpr (by simpa using lowest)⟩
  rw [CorrRule.accepts, if_neg (show ¬x.ordered = true by simp [unordered])]
  split
  · next late => simp [BitVec.not_le.mpr late]
  · next timely =>
    rw [position]
    simp [BitVec.not_lt.mp timely]

/-- An event starts a context at the lowest position that names it, in an ordered rule at the first alone (R116). -/
theorem startPosition_iff : x.startPosition ev = some p ↔ p.val < x.stepCount ∧
    x.steps.get p = ⟨ev.line, ev.direction⟩ ∧ (x.ordered = true → p = 0) ∧
    ∀ q, q < p → x.steps.get q ≠ ⟨ev.line, ev.direction⟩ := by
  unfold CorrRule.startPosition
  cases ordered : x.ordered with
  | true =>
    have names := stepNames_iff x ev 0
    rw [if_pos rfl]
    constructor
    · intro found
      split at found
      · next named =>
        cases found
        exact ⟨(names.mp named).1, (names.mp named).2, fun _ => rfl, fun q lt => absurd lt (Nat.not_lt_zero _)⟩
      · cases found
    · rintro ⟨inside, is, first, -⟩
      cases first rfl
      rw [if_pos (names.mpr ⟨inside, is⟩)]
  | false =>
    rw [if_neg (by decide), find_position, stepNames_iff]
    constructor
    · rintro ⟨⟨inside, names⟩, lowest⟩
      exact ⟨inside, names, fun is => absurd is (by decide),
        fun q lt => (stepNames_eq_false_iff (Nat.lt_trans lt inside)).mp (lowest q lt)⟩
    · rintro ⟨inside, names, -, lowest⟩
      exact ⟨⟨inside, names⟩, fun q lt => (stepNames_eq_false_iff (Nat.lt_trans lt inside)).mpr (lowest q lt)⟩

end

/-! ## One rule takes a line event (R110, R111, R116, R117) -/

theorem satAdvance_toNat (t : Timestamp) (n : Nat) : (satAdvance t n).toNat = min 0xFFFFFFFFFFFF (t.toNat + n) := by
  rw [satAdvance, BitVec.toNat_ofNat, maxTimestamp]
  omega

section
variable {ev : CorrEvent} {r : RuleId} {s : State}

/-- The deadline and the lapse instant of a context that starts (R110, R116). -/
theorem startedContext_eq {x : CorrRule} {p : Fin 4} {deadline lapse : Timestamp}
    (closes : deadline.toNat = min 0xFFFFFFFFFFFF (ev.stamp.time.toNat + 1000 * x.window.toNat))
    (ends : lapse.toNat = min 0xFFFFFFFFFFFF (deadline.toNat + 1000 * x.grace.toNat)) : startedContext x ev p s =
      { steps := put (Vector.replicate 4 none) p (some ⟨ev.ref, ev.stamp, ev.test⟩)
        start := ev.stamp
        deadline := deadline
        lapsesAt := s.time.elapsed + (lapse.toNat - s.time.counter.toNat) } := by
  have window : satAdvance ev.stamp.time (1000 * x.window.toNat) = deadline :=
    BitVec.eq_of_toNat_eq ((satAdvance_toNat _ _).trans closes.symm)
  have grace : satAdvance deadline (1000 * x.grace.toNat) = lapse :=
    BitVec.eq_of_toNat_eq ((satAdvance_toNat _ _).trans ends.symm)
  unfold startedContext
  dsimp only
  rw [window, grace]
  rfl

/-- The context a rule has just opened lapses at once where its lapse instant has come (R110). -/
theorem lapsesAtOnce_opened (x : CorrRule) (d : CorrContext) :
    lapsesAtOnce r x.contexts.length (s.setRule r { x with contexts := x.contexts ++ [d] }) =
      if d.lapsesAt ≤ s.time.elapsed then [(r, x.contexts.length)] else [] := by
  unfold lapsesAtOnce
  rw [setRule_rules, get_put_same, List.getElem?_concat_length]
  rfl

section
variable (on : (s.rules.get r).enabled = true) (declined : ∀ c ∈ (s.rules.get r).contexts, (s.rules.get r).accepts ev c = none)
include on declined

/-- A start that opens no context leaves nothing to lapse at once (R117). -/
theorem visitRule_misses {p : Fin 4} {t : State} (start : (s.rules.get r).startPosition ev = some p)
    (missed : startContext r ev p s = t) (contexts : (t.rules.get r).contexts = (s.rules.get r).contexts) :
    visitRule ev r s = (t, []) := by
  rw [visitRule_starts on (firstAccepting_none _ ev _ 0 declined) start, missed, contexts, if_neg (Nat.lt_irrefl _)]

theorem visitRule_opens {p : Fin 4} (start : (s.rules.get r).startPosition ev = some p)
    (room : (s.rules.get r).contexts.length < (s.rules.get r).limit) (free : s.openContexts < 24) : visitRule ev r s =
      (s.setRule r { s.rules.get r with
          contexts := (s.rules.get r).contexts ++ [startedContext (s.rules.get r) ev p s] },
        if (startedContext (s.rules.get r) ev p s).lapsesAt ≤ s.time.elapsed then [(r, (s.rules.get r).contexts.length)]
        else []) := by
  rw [visitRule_starts on (firstAccepting_none _ ev _ 0 declined) start, startContext_opens room free, lapsesAtOnce_opened,
    setRule_rules, get_put_same, if_pos (by rw [List.length_append]; exact Nat.lt_succ_self _)]

end

end

/-! ## The engine takes a line event whole (R110, R111) -/

theorem visitRules_fst (ev : CorrEvent) (rs : List RuleId) (s : State) :
    (visitRules ev rs s).1 = rs.foldl (fun t r => (visitRule ev r t).1) s := by
  induction rs generalizing s with
  | nil => rfl
  | cons r rs ih => exact ih _

theorem correlate_eq {ev : CorrEvent} {s v : State} {due : List (RuleId × Nat)}
    (visited : visitRules ev (List.finRange 16) s = (v, due)) : correlate ev s =
      lapseAll (arrange (Config.lapseChoice v.freeIndex) due.length due)
        { v with freeIndex := if due.length ≤ 1 then v.freeIndex else v.freeIndex + 1 } := by
  unfold correlate
  dsimp only
  rw [visited]

/-- What lapses at once lapses after the last rule's visit, in some order (R110, R111; log 6). -/
theorem correlate_lapses {ev : CorrEvent} {s v : State} {due : List (RuleId × Nat)}
    (visited : visitRules ev (List.finRange 16) s = (v, due)) :
    (due = [] → correlate ev s = v) ∧
    (∀ r place, due = [(r, place)] → correlate ev s = lapse .window r place v) ∧
    (2 ≤ due.length → ∃ order, order.Perm due ∧
      correlate ev s = lapseAll order { v with freeIndex := v.freeIndex + 1 }) := by
  have whole := correlate_eq visited
  refine ⟨?_, ?_, fun several => ⟨_, arrange_perm (Config.lapseChoice v.freeIndex) due.length due, ?_⟩⟩
  · rintro rfl
    exact whole
  · rintro r place rfl
    exact whole
  · rwa [if_neg (by omega)] at whole

/-! ## The statement, part by part -/

/-- A lapse timer's expiry (R117 to R119). -/
theorem lapseTimer_ends (r : RuleId) (place : Nat) (s : State) (x : CorrRule) (c : CorrContext) (running : s.inReset = false)
    (clock : s.clockRunning = true) (is : x = s.rules.get r) (at_ : x.contexts[place]? = some c) :
    ∃ t, exec (.lapseTimerExpiry r place) s = .next t ∧
      t.rules = put s.rules r { x with contexts := x.contexts.eraseIdx place, lapseCount := satInc x.lapseCount } ∧
      t.exhausted = false ∧ OnlyReports s { t with rules := s.rules, exhausted := s.exhausted } ∧
      (x.recordLapses = false → t.store = s.store) ∧
      (x.recordLapses = true → s.store.loss = none → 15 ≤ s.store.free →
        t.store.records = s.store.records ++ [⟨s.store.next, c.start, c.anyTest, .lapsed r .window c.positions c.refs⟩]) := by
  subst is
  refine ⟨lapse .window r place s, exec_lapseTimerExpiry running clock, lapse_rules at_,
    lapse_exhausted_false (.inr (by rw [at_]; rfl)), lapse_onlyReports at_, lapse_unrecorded at_, fun on whole room => ?_⟩
  rw [lapse_written at_ (.inr on) whole room]
  rfl

/-- A completion (R114, R115, R117). -/
theorem complete_ends (r : RuleId) (place : Nat) (c : CorrContext) (stamp : Stamp) (s : State) (x : CorrRule)
    (is : x = s.rules.get r) :
    (complete r place c stamp s).rules =
      put s.rules r { x with contexts := x.contexts.eraseIdx place, matchCount := satInc x.matchCount } ∧
    (complete r place c stamp s).exhausted = false ∧
    (∀ q, x.action = some q → (complete r place c stamp s).outputs = (requestPulse q s).outputs) ∧
    (x.action = none → (complete r place c stamp s).outputs = s.outputs) ∧
    (s.store.loss = none → 15 ≤ s.store.free → (complete r place c stamp s).store.records =
      s.store.records ++ [⟨s.store.next, stamp, c.anyTest, .matched r x.stepCount c.refs⟩]) := by
  subst is
  have outputs := complete_outputs r place c stamp s
  refine ⟨complete_rules r place c stamp s, complete_exhausted r place c stamp s, fun q asks => ?_, fun silent => ?_,
    fun whole room => ?_⟩
  · rw [outputs, asks]; rfl
  · rw [outputs, silent]; rfl
  · rw [complete_written whole room]; rfl

/-- The visit of a rule that starts a context, or is asked to (R110, R116, R117). -/
theorem visitRule_start (ev : CorrEvent) (r : RuleId) (s : State) (x : CorrRule) (is : x = s.rules.get r)
    (on : x.enabled = true) (declined : ∀ c ∈ x.contexts, x.accepts ev c = none) (p : Fin 4) (missed : State)
    (start : x.startPosition ev = some p) (miss : missed = s.setRule r { x with missedStarts := satInc x.missedStarts }) :
    (x.limit ≤ x.contexts.length → visitRule ev r s = (missed, [])) ∧
    (x.contexts.length < x.limit → 24 ≤ s.openContexts → s.exhausted = true → visitRule ev r s = (missed, [])) ∧
    (x.contexts.length < x.limit → 24 ≤ s.openContexts → s.exhausted = false →
      visitRule ev r s = (raise .contextsExhausted { missed with exhausted := true }, [])) ∧
    (∀ deadline lapse : Timestamp, x.contexts.length < x.limit → s.openContexts < 24 →
      deadline.toNat = min 0xFFFFFFFFFFFF (ev.stamp.time.toNat + 1000 * x.window.toNat) →
      lapse.toNat = min 0xFFFFFFFFFFFF (deadline.toNat + 1000 * x.grace.toNat) →
      visitRule ev r s = (s.setRule r { x with contexts := x.contexts ++ [{
          steps := put (Vector.replicate 4 none) p (some ⟨ev.ref, ev.stamp, ev.test⟩)
          start := ev.stamp
          deadline := deadline
          lapsesAt := s.time.elapsed + (lapse.toNat - s.time.counter.toNat) }] },
        if lapse ≤ s.time.counter then [(r, x.contexts.length)] else [])) := by
  subst is
  have is : missStart r s = missed := miss.symm
  have contexts := missStart_contexts r s
  rw [is] at contexts
  refine ⟨fun full => ?_, fun room full episode => ?_, fun room full first => ?_,
    fun deadline lapse room free closes ends => ?_⟩
  · exact visitRule_misses on declined start ((startContext_atLimit full).trans is) contexts
  · refine visitRule_misses on declined start ?_ contexts
    rw [startContext_poolFull room full, if_pos episode, is]
  · refine visitRule_misses on declined start ?_ contexts
    rw [startContext_poolFull room full, if_neg (by simp [first]), is]
  · have due : s.time.elapsed + (lapse.toNat - s.time.counter.toNat) ≤ s.time.elapsed ↔ lapse ≤ s.time.counter := by
      rw [BitVec.le_def]
      omega
    rw [visitRule_opens on declined start room free, startedContext_eq closes ends]
    simp only [due]

/-- The visit of a rule, disabled, with a context that accepts the event, or with none (R110 to R114, R116, R117). -/
theorem visitRule_spec (ev : CorrEvent) (r : RuleId) (s : State) (x : CorrRule) (is : x = s.rules.get r) :
    (x.enabled = false → visitRule ev r s = (s, [])) ∧
    (∀ i c p d u, x.enabled = true → x.contexts[i]? = some c → x.accepts ev c = some p →
      (∀ j b, j < i → x.contexts[j]? = some b → x.accepts ev b = none) → d = c.taken p ev → u = s.setContext r i d →
      (x.stepCount ≤ d.heldSteps.length → visitRule ev r s = (complete r i d ev.stamp u, [])) ∧
      (d.heldSteps.length < x.stepCount → (visitRule ev r s).1 = u)) ∧
    (x.enabled = true → (∀ c ∈ x.contexts, x.accepts ev c = none) → x.startPosition ev = none →
      visitRule ev r s = (s, [])) := by
  subst is
  refine ⟨visitRule_disabled, ?_, fun on declined start => visitRule_passed on (firstAccepting_none _ ev _ 0 declined) start⟩
  rintro i c p d u on at_ takes before rfl rfl
  have first := firstAccepting_some _ ev p _ i 0 c at_ takes before
  rw [Nat.zero_add] at first
  rw [visitRule_taken on first at_]
  exact ⟨fun whole => by rw [if_pos whole], fun short => by rw [if_neg (Nat.not_le.mpr short)]⟩

/-- Settles O40. -/
theorem contextsEndByLapseOrMatch : Obligations.ContextsEndByLapseOrMatch := by
  refine ⟨lapseTimer_ends, complete_ends, fun x ev c k p last held ordered first is newest => ?ordered,
    fun x ev c p => accepts_unordered_iff, fun x ev p => startPosition_iff, fun ev r s x is => ?visit,
    fun ev s v due visited => ⟨?visits, correlate_lapses visited⟩⟩
  case ordered =>
    obtain ⟨count, last_⟩ := heldSteps_initial first is newest
    exact accepts_ordered_iff ordered count last_
  case visit =>
    obtain ⟨disabled, taken, passed⟩ := visitRule_spec ev r s x is
    refine ⟨disabled, fun i c p d u on at_ takes before advanced placed => ?_,
      fun on declined => ⟨passed on declined, fun p missed => visitRule_start ev r s x is on declined p missed⟩⟩
    exact taken i c p d u on at_ takes before advanced (by rw [placed, is]; rfl)
  case visits => rw [← visitRules_fst, visited]

end Sys2Proof.Machine

/-! PROOFS. AlarmLaws: the rules of the Alarm List: an entry changed, removed and found again, the summaries handed, and each
operation of Chapter 7 by the state of the line's entry. -/
namespace Sys2Proof.Machine

/-! ## The entry of a line (R130) -/

section
variable {s t : State} {l : LineId} {e : AlarmEntry} {es : List AlarmEntry} {f g : AlarmEntry → AlarmEntry}

theorem alarmOf_mem (found : s.alarmOf l = some e) : e ∈ s.alarms.entries ∧ e.line = l :=
  ⟨List.mem_of_find?_eq_some found, by simpa using List.find?_some found⟩

theorem alarmOf_none_iff : s.alarmOf l = none ↔ ∀ x ∈ s.alarms.entries, x.line ≠ l := by
  unfold State.alarmOf
  simp

theorem changeEntry_absent (absent : ∀ x ∈ es, x.line ≠ l) : changeEntry l f es = es :=
  (List.map_congr_left fun x inside => if_neg (absent x inside)).trans (List.map_id es)

theorem removeEntry_absent (absent : ∀ x ∈ es, x.line ≠ l) : removeEntry l es = es :=
  List.filter_eq_self.mpr fun x inside => decide_eq_true (absent x inside)

/-- A change that names no entry's line anew keeps every line in its place. -/
theorem changeEntry_lines (line : ∀ x, (f x).line = x.line) (es : List AlarmEntry) :
    (changeEntry l f es).map AlarmEntry.line = es.map AlarmEntry.line := by
  unfold changeEntry
  rw [List.map_map]
  refine List.map_congr_left fun x _ => ?_
  show (if x.line = l then f x else x).line = x.line
  split
  · exact line x
  · rfl

/-- Two changes of an entry are one. -/
theorem changeEntry_changeEntry (line : ∀ x, (f x).line = x.line) (es : List AlarmEntry) :
    changeEntry l g (changeEntry l f es) = changeEntry l (g ∘ f) es := by
  unfold changeEntry
  rw [List.map_map]
  refine List.map_congr_left fun x _ => ?_
  by_cases own : x.line = l
  · simp [own, line]
  · simp [own]

/-- The entry of a line after a change of it. -/
theorem alarmOf_changed (is : t.alarms.entries = changeEntry l f s.alarms.entries) (line : ∀ x, (f x).line = x.line) :
    t.alarmOf l = (s.alarmOf l).map f := by
  have same : (fun x : AlarmEntry => decide (x.line = l)) ∘ (fun x => if x.line = l then f x else x) =
      fun x => decide (x.line = l) := by
    funext x
    by_cases own : x.line = l
    · simp [own, line]
    · simp [own]
  unfold State.alarmOf
  rw [is, changeEntry, List.find?_map, same]
  cases found : s.alarms.entries.find? fun x => decide (x.line = l) with
  | none => rfl
  | some x => exact congrArg some (if_pos (alarmOf_mem found).2)

/-- A line has no entry after it was removed. -/
theorem alarmOf_removed (is : t.alarms.entries = removeEntry l s.alarms.entries) : t.alarmOf l = none := by
  rw [alarmOf_none_iff, is]
  intro x inside
  simpa using (List.mem_filter.mp inside).2

/-- In a list with one entry for each line, an entry of a line is the one found. -/
theorem eq_of_alarmOf (once : (s.alarms.entries.map AlarmEntry.line).Nodup) (found : s.alarmOf l = some e)
    {x : AlarmEntry} (inside : x ∈ s.alarms.entries) (own : x.line = l) : x = e :=
  List.inj_on_of_nodup_map once inside (alarmOf_mem found).1 (own.trans (alarmOf_mem found).2.symm)

end

/-! ## Summaries (R146, R147) -/

/-- Two entries alike in what the summaries follow (R146). -/
structure SameUrgency (x y : AlarmEntry) : Prop where
  priority : y.priority = x.priority
  phase : y.phase = x.phase
  silenced : y.silenced = x.silenced

/-- The summaries follow the priorities, states and silenced flags of the entries alone (R146). -/
theorem summariesOf_changeEntry {f : AlarmEntry → AlarmEntry} (l : LineId) (same : ∀ x, SameUrgency x (f x))
    (es : List AlarmEntry) : summariesOf (changeEntry l f es) = summariesOf es := by
  have changed : ∀ x, SameUrgency x (if x.line = l then f x else x) := by
    intro x
    split
    · exact same x
    · exact ⟨rfl, rfl, rfl⟩
  unfold changeEntry summariesOf lampOf hornOf
  simp only [List.filter_map, List.any_map, Function.comp_def, (changed _).priority, (changed _).phase, (changed _).silenced]

/-- An output that holds the summary handed last holds the new one (R147). -/
theorem handOne_current (old new : Summary) : handOne old new old = new := by
  cases old; cases new
  simp only [handOne, Summary.mk.injEq]
  constructor <;> (split <;> simp_all)

/-- The Output Unit keeps up with the summaries (R147). -/
theorem handSummaries_handed {s : State} (current : s.outputs.handed = s.alarms.summaries) :
    (handSummaries s).outputs.handed = summariesOf s.alarms.entries := by
  show (Vector.ofFn fun k => handOne (s.alarms.summaries.get k) ((summariesOf s.alarms.entries).get k)
    (s.outputs.handed.get k)) = summariesOf s.alarms.entries
  refine Vector.ext fun i small => ?_
  rw [Vector.getElem_ofFn, current, handOne_current]
  rfl

/-! ## Departures, returns, chatter and withdrawals (R131 to R136) -/

/-- A RETURNED entry whose line has departed again (R132). -/
def AlarmEntry.again (x : AlarmEntry) (test : Bool) (timer : Fin 4 → Option Nat) : AlarmEntry :=
  { x with phase := .alert, repeats := satInc8 x.repeats, silenced := false, test := test, timer := timer x.priority }

section
variable {s : State} {ev : AlarmEvent} {l : LineId} {e : AlarmEntry}

theorem alarmDeparture_none (none_ : s.alarmOf ev.line = none) : alarmDeparture ev s = createEntry ev false s := by
  simp [alarmDeparture, none_]

theorem alarmDeparture_returned (found : s.alarmOf ev.line = some e) (returned : e.phase = .returned) :
    alarmDeparture ev s = handSummaries (s.setEntries
      (changeEntry ev.line (fun x => x.again ev.test s.escalationTimer) s.alarms.entries)) := by
  simp only [alarmDeparture, found, returned]
  rfl

theorem alarmDeparture_stands (found : s.alarmOf ev.line = some e) (away : e.phase ≠ .returned) :
    alarmDeparture ev s = s := by
  unfold alarmDeparture
  rw [found]
  cases phase : e.phase with
  | returned => exact absurd phase away
  | _ => simp only [phase]

theorem alarmReturn_none (none_ : s.alarmOf l = none) : alarmReturn l s = s := by simp [alarmReturn, none_]

theorem alarmReturn_alert (found : s.alarmOf l = some e) (alert : e.phase = .alert) :
    alarmReturn l s = handSummaries (s.setEntries
      (changeEntry l (fun x => { x with phase := .returned, timer := none }) s.alarms.entries)) := by
  simp only [alarmReturn, found, alert]

theorem alarmReturn_acked_both (found : s.alarmOf l = some e) (acked : e.phase = .acked)
    (both : (s.lineTable.get l).ackMode = .both) : alarmReturn l s = handSummaries (s.setEntries
      (changeEntry l (fun x => { x with phase := .returned }) s.alarms.entries)) := by
  simp only [alarmReturn, found, acked, both, if_true]

theorem alarmReturn_acked_depart (found : s.alarmOf l = some e) (acked : e.phase = .acked)
    (depart : (s.lineTable.get l).ackMode ≠ .both) :
    alarmReturn l s = handSummaries (s.setEntries (removeEntry l s.alarms.entries)) := by
  simp only [alarmReturn, found, acked, depart, if_false]

theorem alarmReturn_returned (found : s.alarmOf l = some e) (returned : e.phase = .returned) : alarmReturn l s = s := by
  simp only [alarmReturn, found, returned]

theorem alarmChatterOn_none (none_ : s.alarmOf ev.line = none) : alarmChatterOn ev s = createEntry ev true s := by
  simp only [alarmChatterOn, none_]

theorem alarmChatterOn_some (found : s.alarmOf ev.line = some e) : alarmChatterOn ev s =
    s.setEntries (changeEntry ev.line (fun x => { x with chatter := true }) s.alarms.entries) := by
  simp only [alarmChatterOn, found]

theorem alarmWithdraw_none (none_ : s.alarmOf l = none) : alarmWithdraw l s = s := by simp only [alarmWithdraw, none_]

theorem alarmWithdraw_some (found : s.alarmOf l = some e) :
    alarmWithdraw l s = handSummaries (s.setEntries (removeEntry l s.alarms.entries)) := by
  simp only [alarmWithdraw, found]

/-- A withdrawal leaves the list without the line, whether it had an entry or not (R136). -/
theorem alarmWithdraw_entries (l : LineId) (s : State) :
    (alarmWithdraw l s).alarms.entries = removeEntry l s.alarms.entries := by
  cases found : s.alarmOf l with
  | none => rw [alarmWithdraw_none found, removeEntry_absent (alarmOf_none_iff.mp found)]
  | some e => rw [alarmWithdraw_some found]; rfl

end

/-! ## Acknowledgement (R138 to R140) -/

/-- What an acknowledgement leaves of an entry: an ALERT entry is ACKED with its timer stopped, a RETURNED one is removed
(R138). -/
def AlarmEntry.acknowledged (e : AlarmEntry) : Option AlarmEntry :=
  match e.phase with
  | .alert => some { e with phase := .acked, timer := none }
  | .returned => none
  | .acked => some e

/-- The result that the ACK record of an entry carries (R64, R138). -/
def AlarmEntry.ackResult (e : AlarmEntry) : AckResult := if e.phase = .alert then .acked else .removed

/-- The entries once one line's is acknowledged: the entry of `e`, which is its own line's. -/
def ackedEntries (e : AlarmEntry) (es : List AlarmEntry) : List AlarmEntry :=
  if e.phase = .alert then changeEntry e.line (fun x => { x with phase := .acked, timer := none }) es
  else removeEntry e.line es

section
variable {tag : Word} {side : Half} {l : LineId} {s : State} {e : AlarmEntry}

/-- Where the line has no entry, or one that is ACKED, nothing is acknowledged (R138). -/
theorem ackEntry_stands (stands : ∀ e, s.alarmOf l = some e → e.phase = .acked) : ackEntry tag side l s = (false, s) := by
  unfold ackEntry
  cases found : s.alarmOf l with
  | none => rfl
  | some e => simp only [stands e found]

/-- An entry in ALERT or RETURNED is acknowledged, and recorded where ACK recording is on (R138, R140). -/
theorem ackEntry_acts (found : s.alarmOf l = some e) (acts : e.phase ≠ .acked) : ackEntry tag side l s =
    (true, ackRecord l e.ackResult e.test tag side (s.setEntries (ackedEntries e s.alarms.entries))) := by
  have own := (alarmOf_mem found).2
  unfold ackEntry AlarmEntry.ackResult ackedEntries
  rw [found, own]
  cases phase : e.phase with
  | alert => simp only [phase, if_true]
  | returned => simp only [phase, reduceCtorEq, if_false]
  | acked => exact absurd phase acts

theorem ackRecord_onlyReports (r : AckResult) (test : Bool) : OnlyReports s (ackRecord l r test tag side s) := by
  unfold ackRecord
  split
  · exact report_onlyReports _ _ _ _
  · exact OnlyReports.refl s

/-- With ACK recording off no record is appended (R140). -/
theorem ackRecord_off {r : AckResult} {test : Bool} (off : s.alarms.ackRecording = false) :
    ackRecord l r test tag side s = s := if_neg (by rw [off]; exact Bool.false_ne_true)

/-- With it on and room in the store the ACK record alone is (R64, R140). -/
theorem ackRecord_written {r : AckResult} {test : Bool} (on : s.alarms.ackRecording = true) (whole : s.store.loss = none)
    (room : 12 ≤ s.store.free) :
    (ackRecord l r test tag side s).store = s.store.written s.now test (.ack l r tag side) := by
  unfold ackRecord
  rw [if_pos on]
  exact report_fits whole room

/-- The list after an entry is acknowledged. -/
theorem ackEntry_acts_entries (found : s.alarmOf l = some e) (acts : e.phase ≠ .acked) :
    (ackEntry tag side l s).2.alarms.entries = ackedEntries e s.alarms.entries := by
  rw [ackEntry_acts found acts, (ackRecord_onlyReports _ _).alarms]
  rfl

/-- With ACK recording off an acknowledgement leaves the store alone (R140). -/
theorem ackEntry_store_off (off : s.alarms.ackRecording = false) : (ackEntry tag side l s).2.store = s.store := by
  by_cases stands : ∀ e, s.alarmOf l = some e → e.phase = .acked
  · rw [ackEntry_stands stands]
  · push Not at stands
    obtain ⟨e, found, acts⟩ := stands
    have unrecorded := ackRecord_off (l := l) (tag := tag) (side := side) (r := e.ackResult) (test := e.test)
      (s := s.setEntries (ackedEntries e s.alarms.entries)) off
    rw [ackEntry_acts found acts, unrecorded]
    rfl

/-- With it on and room in the store, an acknowledged entry's record is written (R140). -/
theorem ackEntry_written (found : s.alarmOf l = some e) (acts : e.phase ≠ .acked) (on : s.alarms.ackRecording = true)
    (whole : s.store.loss = none) (room : 12 ≤ s.store.free) : (ackEntry tag side l s).2.store =
      s.store.written s.now e.test (.ack l e.ackResult tag side) := by
  rw [ackEntry_acts found acts]
  exact ackRecord_written on whole room

end

/-! ## Silencing and escalation (R141, R144) -/

/-- The entries silenced: those already silenced stand as they are (R141). -/
theorem silenceEntries_entries (side : Half) (s : State) : (silenceEntries side s).alarms.entries =
    s.alarms.entries.map fun e => if e.phase = .alert then { e with silenced := true } else e := by
  rw [silenceEntries, (report_onlyReports _ _ _ _).alarms]
  refine List.map_congr_left fun e _ => ?_
  cases e with
  | mk line phase priority first ref repeats test chatter silenced timer => cases silenced <;> simp

theorem raisePriority_eq {q p : Fin 4} (is : p.val = min 3 (q.val + 1)) : raisePriority q = p := by
  unfold raisePriority
  split
  · exact Fin.ext (by rw [is]; dsimp only; omega)
  · exact Fin.ext (by rw [is]; omega)

/-- An entry at the priority it escalates to, silenced no more, its timer started anew (R144). -/
def AlarmEntry.escalated (x : AlarmEntry) (p : Fin 4) (timer : Option Nat) : AlarmEntry :=
  { x with priority := p, silenced := false, timer := timer }

section
variable (e : AlarmEntry) (s : State)

/-- An escalation's entry at its new priority, the summaries handed, before its record (R144, steps 2 and 3). -/
def escalationRaised : State :=
  handSummaries (s.setEntries (changeEntry e.line (fun x => x.escalated (raisePriority e.priority) none) s.alarms.entries))

/-- After its record and cause (R144, step 4). -/
def escalationRecorded : State :=
  raise .escalated (report s.now e.test (.escalate e.line (raisePriority e.priority)) (escalationRaised e s))

/-- After its action (R144, step 5). -/
def escalationAsked : State := requestAction (s.alarms.escalation.get e.priority).action (escalationRecorded e s)

theorem escalationAsked_alarms : (escalationAsked e s).alarms = (escalationRaised e s).alarms := by
  unfold escalationAsked escalationRecorded
  rw [(requestAction_onlyEngine _ _).alarms, raise_alarms, (report_onlyReports _ _ _ _).alarms]

theorem escalationAsked_timer (p : Fin 4) : (escalationAsked e s).escalationTimer p = s.escalationTimer p := by
  have time : (escalationAsked e s).time = s.time := by
    unfold escalationAsked escalationRecorded
    rw [(requestAction_handled _ _).events.time, raise_time, (report_onlyReports _ _ _ _).time]
    rfl
  unfold State.escalationTimer State.inMillis
  rw [time, escalationAsked_alarms]
  rfl

/-- The escalation as its steps, the timer started last (R144). -/
theorem escalate_eq : escalate e s = (escalationAsked e s).setEntries
    (changeEntry e.line (fun x => { x with timer := s.escalationTimer (raisePriority e.priority) })
      (escalationRaised e s).alarms.entries) := by
  rw [← escalationAsked_timer e s, ← escalationAsked_alarms]
  rfl

theorem escalate_entries : (escalate e s).alarms.entries = changeEntry e.line
    (fun x => x.escalated (raisePriority e.priority) (s.escalationTimer (raisePriority e.priority))) s.alarms.entries := by
  rw [escalate_eq]
  exact changeEntry_changeEntry (f := fun x => x.escalated (raisePriority e.priority) none) (fun _ => rfl) s.alarms.entries

end

end Sys2Proof.Machine

/-! PROOFS. AlarmsStand: the operations that leave the alarm entries, the summaries and what the outputs were handed alone. -/
namespace Sys2Proof.Machine

/-- The alarm entries, the summaries and the summaries handed have not changed. -/
structure AlarmsStand (s t : State) : Prop where
  entries : t.alarms.entries = s.alarms.entries
  summaries : t.alarms.summaries = s.alarms.summaries
  handed : t.outputs.handed = s.outputs.handed

theorem AlarmsStand.refl (s : State) : AlarmsStand s s := ⟨rfl, rfl, rfl⟩

theorem AlarmsStand.trans {s t u : State} (a : AlarmsStand s t) (b : AlarmsStand t u) : AlarmsStand s u :=
  ⟨b.entries.trans a.entries, b.summaries.trans a.summaries, b.handed.trans a.handed⟩

/-- Either of two states stands. -/
theorem AlarmsStand.ite {s t u : State} {c : Prop} [Decidable c] (a : AlarmsStand s t) (b : AlarmsStand s u) :
    AlarmsStand s (if c then t else u) := by
  split
  · exact a
  · exact b

/-- The Alarm List and the outputs as they were. -/
theorem AlarmsStand.of_same {s t : State} (alarms : t.alarms = s.alarms) (outputs : t.outputs = s.outputs) :
    AlarmsStand s t := ⟨by rw [alarms], by rw [alarms], by rw [outputs]⟩

theorem OnlyReports.alarmsStand {s t : State} (a : OnlyReports s t) : AlarmsStand s t := .of_same a.alarms a.outputs

theorem BlocksStand.alarmsStand {s t : State} (a : BlocksStand s t) : AlarmsStand s t := .of_same a.alarms a.outputs

theorem report_alarmsStand (stamp : Stamp) (test : Bool) (body : Body) (s : State) :
    AlarmsStand s (report stamp test body s) := (report_onlyReports stamp test body s).alarmsStand

theorem append_alarmsStand (stamp : Stamp) (test : Bool) (body : Body) (s : State) :
    AlarmsStand s (append stamp test body s).2 := (append_onlyReports stamp test body s).alarmsStand

theorem requestAction_alarmsStand (a : Option OutputId) (s : State) : AlarmsStand s (requestAction a s) := by
  cases a <;> exact ⟨rfl, rfl, rfl⟩

theorem setLine_alarmsStand (s : State) (l : LineId) (x : LineState) : AlarmsStand s (s.setLine l x) := ⟨rfl, rfl, rfl⟩

theorem setGroup_alarmsStand (s : State) (g : GroupId) (x : FirstOutGroup) : AlarmsStand s (s.setGroup g x) := ⟨rfl, rfl, rfl⟩

theorem setRule_alarmsStand (s : State) (r : RuleId) (x : CorrRule) : AlarmsStand s (s.setRule r x) := ⟨rfl, rfl, rfl⟩

theorem setTime_alarmsStand (s : State) (t : TimeBase) : AlarmsStand s { s with time := t } := ⟨rfl, rfl, rfl⟩

theorem setFreeIndex_alarmsStand (s : State) (n : Nat) : AlarmsStand s { s with freeIndex := n } := ⟨rfl, rfl, rfl⟩

theorem setFlash_alarmsStand (s : State) (n : Nat) :
    AlarmsStand s { s with outputs := { s.outputs with flash := n } } := ⟨rfl, rfl, rfl⟩

theorem raise_alarmsStand (c : SystemCause) (s : State) : AlarmsStand s (raise c s) := ⟨rfl, rfl, rfl⟩

/-! ## Groups -/

theorem resolveGroup_alarmsStand (g : GroupId) (d : Bool) (s : State) : AlarmsStand s (resolveGroup g d s) :=
  have kept := resolveGroup_resolved g d s
  .of_same kept.alarms kept.outputs

theorem groupDeparture_alarmsStand (g : GroupId) (c : Candidate) (s : State) : AlarmsStand s (groupDeparture g c s) := by
  unfold groupDeparture
  dsimp only
  split
  · exact .ite ((setGroup_alarmsStand s g _).trans (resolveGroup_alarmsStand g false _)) (setGroup_alarmsStand s g _)
  · exact .ite (.refl s) (setGroup_alarmsStand s g _)
  · exact setGroup_alarmsStand s g _

theorem handGroup_alarmsStand (g : Option GroupId) (c : Candidate) (s : State) : AlarmsStand s (handGroup g c s) := by
  cases g with
  | none => exact .refl s
  | some g => exact groupDeparture_alarmsStand g c s

theorem clearGroup_alarmsStand (g : GroupId) (s : State) : AlarmsStand s (clearGroup g s) :=
  (report_alarmsStand s.now false _ s).trans (setGroup_alarmsStand _ g _)

/-! ## The engine -/

theorem lapse_alarmsStand (reason : LapseReason) (r : RuleId) (k : Nat) (s : State) : AlarmsStand s (lapse reason r k s) :=
  have kept := lapse_lapsed reason r k s
  .of_same kept.alarms kept.outputs

theorem lapseOldest_alarmsStand (reason : LapseReason) (r : RuleId) (n : Nat) (s : State) :
    AlarmsStand s (lapseOldest reason r n s) := by
  induction n generalizing s with
  | zero => exact .refl s
  | succ n ih => exact (lapse_alarmsStand reason r 0 s).trans (ih _)

theorem lapseAll_alarmsStand (items : List (RuleId × Nat)) (s : State) : AlarmsStand s (lapseAll items s) := by
  induction items generalizing s with
  | nil => exact .refl s
  | cons item rest ih => exact (lapse_alarmsStand .window item.1 item.2 s).trans (ih _)

theorem complete_alarmsStand (r : RuleId) (k : Nat) (c : CorrContext) (stamp : Stamp) (s : State) :
    AlarmsStand s (complete r k c stamp s) where
  entries := by rw [(complete_onlyEngine r k c stamp s).alarms]
  summaries := by rw [(complete_onlyEngine r k c stamp s).alarms]
  handed := by rw [complete_outputs, (requestAction_alarmsStand _ s).handed]

theorem startContext_alarmsStand (r : RuleId) (ev : CorrEvent) (p : Fin 4) (s : State) :
    AlarmsStand s (startContext r ev p s) := by
  have missed : AlarmsStand s (missStart r s) := setRule_alarmsStand s r _
  exact .ite missed (.ite (.ite missed ⟨rfl, rfl, rfl⟩) (setRule_alarmsStand s r _))

theorem visitRule_alarmsStand (ev : CorrEvent) (r : RuleId) (s : State) : AlarmsStand s (visitRule ev r s).1 := by
  obtain is | ⟨i, c, p, -, -, is⟩ | ⟨p, -, is⟩ := visitRule_cases ev r s
  · rw [is]; exact .refl s
  · have taken : AlarmsStand s (s.setContext r i (c.taken p ev)) := setRule_alarmsStand s r _
    rw [is]
    exact .ite (taken.trans (complete_alarmsStand r i _ _ _)) taken
  · rw [is]; exact startContext_alarmsStand r ev p s

theorem visitRules_alarmsStand (ev : CorrEvent) (rs : List RuleId) (s : State) : AlarmsStand s (visitRules ev rs s).1 := by
  induction rs generalizing s with
  | nil => exact .refl s
  | cons r rs ih => exact (visitRule_alarmsStand ev r s).trans (ih _)

/-- A line event at the engine (R111). -/
theorem correlate_alarmsStand (ev : CorrEvent) (s : State) : AlarmsStand s (correlate ev s) := by
  unfold correlate
  dsimp only
  exact ((visitRules_alarmsStand ev (List.finRange 16) s).trans (setFreeIndex_alarmsStand _ _)).trans
    (lapseAll_alarmsStand _ _)

theorem ruleEnable_alarmsStand (r : RuleId) (s : State) : AlarmsStand s (ruleEnable r s).2 := by
  unfold ruleEnable
  split
  · exact .refl s
  · exact setRule_alarmsStand s r _

theorem disableRule_alarmsStand (r : RuleId) (s : State) : AlarmsStand s (disableRule r s) :=
  (lapseOldest_alarmsStand .disabled r _ s).trans (setRule_alarmsStand _ r _)

/-! ## The Time Base -/

theorem noticeActions_alarmsStand (items : List (GroupId ⊕ RuleId)) (s : State) : AlarmsStand s (noticeActions items s) := by
  induction items generalizing s with
  | nil => exact .refl s
  | cons a rest ih =>
    cases a with
    | inl g => exact (resolveGroup_alarmsStand g true s).trans (ih _)
    | inr r => exact (lapse_alarmsStand .timeStep r 0 s).trans (ih _)

theorem discontinuityNotice_alarmsStand (s : State) : AlarmsStand s (discontinuityNotice s) := by
  rw [discontinuityNotice_eq]
  exact (setFreeIndex_alarmsStand s _).trans (noticeActions_alarmsStand _ _)

/-- A change of the Time Base, its record and the quality's change: what comes before the notice of a step and of SET TIME. -/
theorem timeRecorded_alarmsStand (t : TimeBase) (stamp : Stamp) (body : Body) (q : Quality) (s : State) :
    AlarmsStand s (changeQuality q (report stamp false body { s with time := t })) :=
  ((setTime_alarmsStand s t).trans (report_alarmsStand stamp false body _)).trans
    (changeQuality_blocksStand q _).alarmsStand

theorem stepCounter_alarmsStand (q : Quality) (offset : Int) (s : State) : AlarmsStand s (stepCounter q offset s) := by
  rw [stepCounter_eq]
  exact (timeRecorded_alarmsStand _ _ _ q s).trans (discontinuityNotice_alarmsStand _)

theorem alignCounter_alarmsStand (beyond : Quality) (s : State) : AlarmsStand s (alignCounter beyond s) :=
  .ite ((correctCounter_blocksStand _ s).trans (changeQuality_blocksStand _ _)).alarmsStand
    (stepCounter_alarmsStand beyond _ s)

theorem takePulse_alarmsStand (s : State) : AlarmsStand s (takePulse s) := by
  have unheld : AlarmsStand s s.unheld := setTime_alarmsStand s _
  have aligned : ∀ beyond, AlarmsStand s (alignCounter beyond s.unheld) := fun beyond =>
    unheld.trans (alignCounter_alarmsStand beyond _)
  unfold takePulse
  refine AlarmsStand.trans ?_ (setTime_alarmsStand _ _)
  cases s.time.quality with
  | free => exact unheld
  | acquiring => exact .ite (aligned .locked) unheld
  | locked => exact aligned .acquiring
  | holdover => exact aligned .acquiring

theorem setCounter_alarmsStand (v : Timestamp) (s : State) : AlarmsStand s (setCounter v s) := by
  rw [setCounter_eq]
  exact (timeRecorded_alarmsStand _ _ _ _ s).trans (discontinuityNotice_alarmsStand _)

/-! ## The tables (Table 42) -/

theorem acceptOr_alarmsStand {α : Type} {s t : State} {o : Option α} {f : α → State} (taken : acceptOr o f = .accepted t)
    (stands : ∀ x, AlarmsStand s (f x)) : AlarmsStand s t := by
  cases o with
  | none => cases taken
  | some x => cases taken; exact stands x

/-- No table holds an alarm entry or a summary; the escalation times are no part of either (R142, R198). -/
theorem writeTable_alarmsStand {s t : State} {p : PortAddress} {w : Word} (taken : writeTable s p w = .accepted t) :
    AlarmsStand s t := by
  unfold writeTable at taken
  split at taken
  · unfold writeLineEntry at taken
    split at taken
    · cases taken
    · split at taken
      · cases taken
      · exact acceptOr_alarmsStand taken fun _ => ⟨rfl, rfl, rfl⟩
  · unfold writeProfile at taken
    split at taken
    · cases taken
    · exact acceptOr_alarmsStand taken fun _ => ⟨rfl, rfl, rfl⟩
  · unfold writeGroup at taken
    split at taken
    · cases taken
    · split at taken
      · cases taken
      · cases taken; exact setGroup_alarmsStand s _ _
  · unfold writeRule at taken
    split at taken
    · cases taken
    · split at taken
      · cases taken
      · exact acceptOr_alarmsStand taken fun _ => setRule_alarmsStand s _ _
  · unfold writeOutput at taken
    split at taken
    · cases taken
    · exact acceptOr_alarmsStand taken fun _ => ⟨rfl, rfl, rfl⟩
  · exact acceptOr_alarmsStand taken fun _ => ⟨rfl, rfl, rfl⟩
  · cases taken

theorem writeTableData_alarmsStand (w : Word) (s : State) : AlarmsStand s (writeTableData w s) := by
  unfold writeTableData
  cases judged : writeTable s s.ports.control w with
  | accepted t => exact (writeTable_alarmsStand judged).trans ⟨rfl, rfl, rfl⟩
  | refused reason => exact ⟨rfl, rfl, rfl⟩
  | ignored => exact ⟨rfl, rfl, rfl⟩

end Sys2Proof.Machine

/-! PROOFS. AlarmsLegal: at most one entry for each line, no escalation timer outside ALERT, the summaries those of the entries
and handed, kept by every operation (R130, R143, R146, R147), so by every step (O47). -/
namespace Sys2Proof.Machine

/-! ## The entries (R130, R143) -/

/-- At most one entry for each line, and an escalation timer only in ALERT. -/
structure EntriesLegal (es : List AlarmEntry) : Prop where
  once : (es.map AlarmEntry.line).Nodup
  timers : ∀ e ∈ es, e.phase ≠ .alert → e.timer = none

theorem EntriesLegal.nil : EntriesLegal [] := ⟨List.nodup_nil, fun _ inside => absurd inside List.not_mem_nil⟩

section
variable {es : List AlarmEntry} (h : EntriesLegal es)
include h

/-- A new entry of a line that has none, in ALERT (R133). -/
theorem EntriesLegal.created {e : AlarmEntry} (new : ∀ x ∈ es, x.line ≠ e.line) (alert : e.phase = .alert) :
    EntriesLegal (es ++ [e]) := by
  refine ⟨?_, fun x inside away => ?_⟩
  · rw [List.map_append, List.map_singleton, ← List.concat_eq_append, List.nodup_concat]
    refine ⟨fun old => ?_, h.once⟩
    obtain ⟨x, inside, own⟩ := List.mem_map.mp old
    exact new x inside own
  · rcases List.mem_append.mp inside with old | last
    · exact h.timers x old away
    · rw [List.mem_singleton.mp last] at away
      exact absurd alert away

/-- Entries removed (R134, R136, R138). -/
theorem EntriesLegal.filtered (p : AlarmEntry → Bool) : EntriesLegal (es.filter p) :=
  ⟨h.once.sublist (List.filter_sublist.map _), fun x inside => h.timers x (List.mem_of_mem_filter inside)⟩

/-- The entry of a line changed: its line stands, and with it no timer runs outside ALERT. -/
theorem EntriesLegal.changed {l : LineId} {f : AlarmEntry → AlarmEntry} (line : ∀ x, (f x).line = x.line)
    (own : ∀ x ∈ es, x.line = l → (f x).phase ≠ .alert → (f x).timer = none) : EntriesLegal (changeEntry l f es) := by
  refine ⟨by rw [changeEntry_lines line]; exact h.once, fun y inside away => ?_⟩
  obtain ⟨x, old, rfl⟩ := List.mem_map.mp inside
  by_cases at_ : x.line = l
  · rw [if_pos at_] at away ⊢
    exact own x old at_ away
  · rw [if_neg at_] at away ⊢
    exact h.timers x old away

/-- An acknowledged entry's timer is stopped, or the entry is removed (R138). -/
theorem EntriesLegal.acked (e : AlarmEntry) : EntriesLegal (ackedEntries e es) := by
  unfold ackedEntries
  split
  · exact h.changed (fun _ => rfl) fun _ _ _ _ => rfl
  · exact h.filtered _

end

/-! ## The list, its summaries and those handed -/

/-- The entries are legal, and the summaries and those handed are theirs (R146, R147). It is a structure over the list's parts,
so that no elaboration runs the model to see them. -/
structure AlarmTableLegal (es : List AlarmEntry) (summaries handed : Vector Summary 4) : Prop where
  entries : EntriesLegal es
  summaries : summaries = summariesOf es
  handed : handed = summariesOf es

/-- The Alarm List is legal and has handed the Output Unit its summaries. -/
def State.alarmsLegal (s : State) : Prop := AlarmTableLegal s.alarms.entries s.alarms.summaries s.outputs.handed

theorem State.alarmsLegal_iff (s : State) :
    s.alarmsLegal ↔ s.alarms.legal ∧ s.outputs.handed = summariesOf s.alarms.entries :=
  ⟨fun ⟨⟨once, timers⟩, summaries, handed⟩ => ⟨⟨once, timers, summaries⟩, handed⟩,
    fun ⟨⟨once, timers, summaries⟩, handed⟩ => ⟨⟨once, timers⟩, summaries, handed⟩⟩

theorem State.alarmsLegal.of_stands {s t : State} (h : s.alarmsLegal) (same : AlarmsStand s t) : t.alarmsLegal := by
  unfold State.alarmsLegal
  rw [same.entries, same.summaries, same.handed]
  exact h

/-- Handing the summaries makes them current where the outputs hold those handed last (R147). -/
theorem handSummaries_alarmsLegal {s : State} (entries : EntriesLegal s.alarms.entries)
    (current : s.outputs.handed = s.alarms.summaries) : (handSummaries s).alarmsLegal :=
  ⟨entries, rfl, handSummaries_handed current⟩

section
variable {s : State} (h : s.alarmsLegal)
include h

theorem State.alarmsLegal.current : s.outputs.handed = s.alarms.summaries := by rw [h.handed, h.summaries]

theorem setEntries_handed_alarmsLegal {es : List AlarmEntry} (own : EntriesLegal es) :
    (handSummaries (s.setEntries es)).alarmsLegal := handSummaries_alarmsLegal own h.current

/-- A change that the summaries do not follow is not handed on (R146). -/
theorem setEntries_unseen_alarmsLegal {l : LineId} {f : AlarmEntry → AlarmEntry} (same : ∀ x, SameUrgency x (f x))
    (own : EntriesLegal (changeEntry l f s.alarms.entries)) :
    (s.setEntries (changeEntry l f s.alarms.entries)).alarmsLegal :=
  have seen := summariesOf_changeEntry l same s.alarms.entries
  ⟨own, h.summaries.trans seen.symm, h.handed.trans seen.symm⟩

/-- The chatter flag bears on neither the timer nor the summaries (R135, R146). -/
theorem setChatter_alarmsLegal (l : LineId) (b : Bool) :
    (s.setEntries (changeEntry l (fun x => { x with chatter := b }) s.alarms.entries)).alarmsLegal :=
  setEntries_unseen_alarmsLegal h (fun _ => ⟨rfl, rfl, rfl⟩)
    (h.entries.changed (fun _ => rfl) fun x inside _ away => h.entries.timers x inside away)

/-! ## Departures, returns, chatter and withdrawals (R131 to R136) -/

theorem createEntry_alarmsLegal {ev : AlarmEvent} (none_ : s.alarmOf ev.line = none) (chatter : Bool) :
    (createEntry ev chatter s).alarmsLegal :=
  handSummaries_alarmsLegal (h.entries.created (alarmOf_none_iff.mp none_) rfl) h.current

theorem alarmDeparture_alarmsLegal (ev : AlarmEvent) : (alarmDeparture ev s).alarmsLegal := by
  cases found : s.alarmOf ev.line with
  | none => rw [alarmDeparture_none found]; exact createEntry_alarmsLegal h found false
  | some e =>
    by_cases returned : e.phase = .returned
    · rw [alarmDeparture_returned found returned]
      exact setEntries_handed_alarmsLegal h (h.entries.changed (fun _ => rfl) fun _ _ _ away => absurd rfl away)
    · rw [alarmDeparture_stands found returned]
      exact h

theorem alarmReturn_alarmsLegal (l : LineId) : (alarmReturn l s).alarmsLegal := by
  cases found : s.alarmOf l with
  | none => rw [alarmReturn_none found]; exact h
  | some e =>
    cases phase : e.phase with
    | alert =>
      rw [alarmReturn_alert found phase]
      exact setEntries_handed_alarmsLegal h (h.entries.changed (fun _ => rfl) fun _ _ _ _ => rfl)
    | returned => rw [alarmReturn_returned found phase]; exact h
    | acked =>
      by_cases both : (s.lineTable.get l).ackMode = .both
      · rw [alarmReturn_acked_both found phase both]
        refine setEntries_handed_alarmsLegal h (h.entries.changed (fun _ => rfl) fun x inside own _ => ?_)
        rw [eq_of_alarmOf h.entries.once found inside own]
        exact h.entries.timers e (alarmOf_mem found).1 (by rw [phase]; decide)
      · rw [alarmReturn_acked_depart found phase both]
        exact setEntries_handed_alarmsLegal h (h.entries.filtered _)

theorem alarmChatterOn_alarmsLegal (ev : AlarmEvent) : (alarmChatterOn ev s).alarmsLegal := by
  cases found : s.alarmOf ev.line with
  | none => rw [alarmChatterOn_none found]; exact createEntry_alarmsLegal h found true
  | some e => rw [alarmChatterOn_some found]; exact setChatter_alarmsLegal h ev.line true

theorem alarmWithdraw_alarmsLegal (l : LineId) : (alarmWithdraw l s).alarmsLegal := by
  cases found : s.alarmOf l with
  | none => rw [alarmWithdraw_none found]; exact h
  | some e => rw [alarmWithdraw_some found]; exact setEntries_handed_alarmsLegal h (h.entries.filtered _)

/-! ## Silencing and escalation (R141, R144) -/

theorem silenceEntries_alarmsLegal (side : Half) : (silenceEntries side s).alarmsLegal := by
  refine (setEntries_handed_alarmsLegal h ⟨?_, ?_⟩).of_stands (report_alarmsStand _ _ _ _)
  · rw [List.map_map]
    refine (congrArg List.Nodup (List.map_congr_left fun e _ => ?_)).mpr h.entries.once
    show AlarmEntry.line (if _ then _ else e) = e.line
    split <;> rfl
  · intro x inside
    obtain ⟨e, old, rfl⟩ := List.mem_map.mp inside
    have own := h.entries.timers e old
    split <;> exact own

/-- Steps 2 to 5 of an escalation leave the timer stopped (R144). -/
theorem escalationAsked_alarmsLegal (e : AlarmEntry) : (escalationAsked e s).alarmsLegal := by
  have raised : (escalationRaised e s).alarmsLegal :=
    setEntries_handed_alarmsLegal h (h.entries.changed (fun _ => rfl) fun _ _ _ _ => rfl)
  exact raised.of_stands (((report_alarmsStand _ _ _ _).trans (raise_alarmsStand _ _)).trans (requestAction_alarmsStand _ _))

/-- The timer that step 6 starts is that of an entry in ALERT, and the summaries do not follow it (R143, R146). -/
theorem escalate_alarmsLegal {l : LineId} {e : AlarmEntry} (found : s.alarmOf l = some e) (alert : e.phase = .alert) :
    (escalate e s).alarmsLegal := by
  have entries : EntriesLegal (escalate e s).alarms.entries := by
    rw [escalate_entries]
    refine h.entries.changed (fun _ => rfl) fun x inside own away => absurd ?_ away
    rw [eq_of_alarmOf h.entries.once found inside (own.trans (alarmOf_mem found).2)]
    exact alert
  rw [escalate_eq, ← escalationAsked_alarms] at entries ⊢
  exact setEntries_unseen_alarmsLegal (escalationAsked_alarmsLegal h e) (fun _ => ⟨rfl, rfl, rfl⟩) entries

end

theorem alarmChatterOff_alarmsLegal {s : State} (h : s.alarmsLegal) (ev : AlarmEvent) (atNormal : Bool) :
    (alarmChatterOff ev atNormal s).alarmsLegal := by
  have cleared := setChatter_alarmsLegal h ev.line false
  unfold alarmChatterOff
  dsimp only
  split
  · exact alarmReturn_alarmsLegal cleared ev.line
  · exact alarmDeparture_alarmsLegal cleared ev

/-! ## Acknowledgement (R138, R139) -/

/-- While entries are acknowledged they stay legal, and the summaries are those handed; they are the entries' own until one of
the entries has changed (R147). -/
structure AcksLegal (r : Bool × State) : Prop where
  entries : EntriesLegal r.2.alarms.entries
  current : r.2.outputs.handed = r.2.alarms.summaries
  unchanged : r.1 = false → r.2.alarms.summaries = summariesOf r.2.alarms.entries

theorem ackEntry_acksLegal (tag : Word) (side : Half) (l : LineId) {b : Bool} {s : State} (h : AcksLegal (b, s)) :
    AcksLegal (b || (ackEntry tag side l s).1, (ackEntry tag side l s).2) := by
  by_cases stands : ∀ e, s.alarmOf l = some e → e.phase = .acked
  · rw [ackEntry_stands stands, Bool.or_false]
    exact h
  · push Not at stands
    obtain ⟨e, found, acts⟩ := stands
    rw [ackEntry_acts found acts, Bool.or_true]
    have recorded := (ackRecord_onlyReports (tag := tag) (side := side) (l := l)
      (s := s.setEntries (ackedEntries e s.alarms.entries)) e.ackResult e.test).alarmsStand
    refine ⟨?_, recorded.handed.trans (h.current.trans recorded.summaries.symm), fun same => Bool.noConfusion same⟩
    rw [recorded.entries]
    exact h.entries.acked e

theorem ackEntries_acksLegal (tag : Word) (side : Half) (ls : List LineId) {r : Bool × State} (h : AcksLegal r) :
    AcksLegal (ackEntries tag side ls r) := by
  induction ls generalizing r with
  | nil => exact h
  | cons l ls ih => exact ih (ackEntry_acksLegal tag side l h)

/-- The summaries are handed where an entry changed (R138, R139, R147). -/
theorem acknowledged_alarmsLegal {r : Bool × State} (h : AcksLegal r) : (acknowledged r).2.alarmsLegal := by
  unfold acknowledged
  split
  · exact handSummaries_alarmsLegal h.entries h.current
  · next same =>
    have own := h.unchanged (Bool.eq_false_iff.mpr same)
    exact ⟨h.entries, own, h.current.trans own⟩

/-- Before the first acknowledgement nothing has changed. -/
theorem State.alarmsLegal.acksLegal {s : State} (h : s.alarmsLegal) : AcksLegal (false, s) :=
  ⟨h.entries, h.current, fun _ => h.summaries⟩

theorem ackLine_alarmsLegal (tag : Word) (side : Half) (l : LineId) {s : State} (h : s.alarmsLegal) :
    (ackLine tag side l s).2.alarmsLegal :=
  acknowledged_alarmsLegal (ackEntry_acksLegal tag side l h.acksLegal)

theorem ackAll_alarmsLegal (tag : Word) (side : Half) {s : State} (h : s.alarmsLegal) : (ackAll tag side s).2.alarmsLegal :=
  acknowledged_alarmsLegal (ackEntries_acksLegal tag side _ h.acksLegal)

/-! ## The classifier (Table 17) -/

theorem State.alarmsLegal.ite {s t : State} {c : Prop} [Decidable c] (a : s.alarmsLegal) (b : t.alarmsLegal) :
    (if c then s else t).alarmsLegal := by
  split
  · exact a
  · exact b

section
variable {s : State} (h : s.alarmsLegal)
include h

theorem recordChange_alarmsLegal (wanted : Bool) (l : LineId) (d : Direction) (stamp : Stamp) (test : Bool) :
    (recordChange wanted l d stamp test s).2.alarmsLegal := by
  cases wanted with
  | true => exact h.of_stands (append_alarmsStand _ _ _ s)
  | false => exact h

theorem routeDepart_alarmsLegal (l : LineId) (stamp : Stamp) (test : Bool) (e : LineEntry) (num : Option Word) :
    (routeDepart l stamp test e num s).alarmsLegal := by
  have matched := (h.of_stands (handGroup_alarmsStand e.group ⟨l, stamp, test, num⟩ s)).of_stands
    (correlate_alarmsStand ⟨l, .depart, stamp, test, num⟩ _)
  exact (State.alarmsLegal.ite matched (alarmDeparture_alarmsLegal matched _)).of_stands (requestAction_alarmsStand _ _)

theorem routeReturn_alarmsLegal (l : LineId) (stamp : Stamp) (test : Bool) (e : LineEntry) (num : Option Word) :
    (routeReturn l stamp test e num s).alarmsLegal := by
  have matched := h.of_stands (correlate_alarmsStand ⟨l, .giveBack, stamp, test, num⟩ s)
  exact (State.alarmsLegal.ite matched (alarmReturn_alarmsLegal matched l)).of_stands (requestAction_alarmsStand _ _)

theorem classifyDepart_alarmsLegal (l : LineId) (stamp : Stamp) (test : Bool) :
    (classifyDepart l stamp test s).alarmsLegal := by
  rw [classifyDepart_eq]
  exact routeDepart_alarmsLegal (recordChange_alarmsLegal h _ l .depart stamp test) l stamp test _ _

theorem classifyReturn_alarmsLegal (l : LineId) (stamp : Stamp) (test : Bool) :
    (classifyReturn l stamp test s).alarmsLegal := by
  rw [classifyReturn_eq]
  exact routeReturn_alarmsLegal (recordChange_alarmsLegal h _ l .giveBack stamp test) l stamp test _ _

theorem classifyInitial_alarmsLegal (l : LineId) (v : Level) (stamp : Stamp) (test : Bool) :
    (classifyInitial l v stamp test s).alarmsLegal :=
  have recorded := h.of_stands (append_alarmsStand stamp test (.armed l v) s)
  .ite recorded (alarmDeparture_alarmsLegal recorded _)

theorem classifyChatterOn_alarmsLegal (l : LineId) (v : Level) (stamp : Stamp) (test : Bool) :
    (classifyChatterOn l v stamp test s).alarmsLegal :=
  have recorded := h.of_stands ((append_alarmsStand stamp test (.chatterOn l v) s).trans (raise_alarmsStand .chatter _))
  .ite recorded (alarmChatterOn_alarmsLegal recorded _)

theorem classifyChatterOff_alarmsLegal (l : LineId) (v : Level) (n : Word) (stamp : Stamp) (test : Bool) :
    (classifyChatterOff l v n stamp test s).alarmsLegal :=
  have recorded := h.of_stands (append_alarmsStand stamp test (.chatterOff l v n) s)
  .ite recorded (alarmChatterOff_alarmsLegal recorded _ _)

theorem classifyDisarmed_alarmsLegal (l : LineId) (stamp : Stamp) (test : Bool) :
    (classifyDisarmed l stamp test s).alarmsLegal :=
  have recorded := h.of_stands (report_alarmsStand stamp test (.disarmed l) s)
  .ite recorded (alarmWithdraw_alarmsLegal recorded l)

/-! ## The conditioner -/

theorem State.alarmsLegal.setLine (l : LineId) (x : LineState) : (s.setLine l x).alarmsLegal :=
  h.of_stands (setLine_alarmsStand s l x)

variable (l : LineId)

theorem countTransition_alarmsLegal (edge : Stamp) : (countTransition l edge s).alarmsLegal :=
  .ite h (.ite (classifyChatterOn_alarmsLegal (h.setLine l _) l _ edge _) (h.setLine l _))

theorem qualifySettling_alarmsLegal : (qualifySettling l s).alarmsLegal :=
  classifyInitial_alarmsLegal (h.setLine l _) l _ _ _

theorem qualifyDeparture_alarmsLegal : (qualifyDeparture l s).alarmsLegal :=
  countTransition_alarmsLegal (classifyDepart_alarmsLegal (h.setLine l _) l _ _) l _

theorem qualifyReturn_alarmsLegal : (qualifyReturn l s).alarmsLegal :=
  countTransition_alarmsLegal (classifyReturn_alarmsLegal (h.setLine l _) l _ _) l _

theorem releaseLine_alarmsLegal : (releaseLine l s).alarmsLegal :=
  classifyChatterOff_alarmsLegal (h.setLine l _) l _ _ _ _

theorem takeChange_alarmsLegal : (takeChange l s).alarmsLegal := by
  unfold takeChange
  split
  · exact h
  · exact h.setLine l _
  · exact .ite (qualifyDeparture_alarmsLegal (h.setLine l _) l) (h.setLine l _)
  · exact h.setLine l _
  · exact .ite (qualifyReturn_alarmsLegal (h.setLine l _) l) (h.setLine l _)
  · exact h.setLine l _
  · exact h.setLine l _

theorem observeLevel_alarmsLegal : (observeLevel l s).alarmsLegal := .ite h (takeChange_alarmsLegal (h.setLine l _) l)

theorem armDisarmed_alarmsLegal : (armDisarmed l s).alarmsLegal :=
  .ite (qualifySettling_alarmsLegal (h.setLine l _) l) (h.setLine l _)

theorem disarmArmed_alarmsLegal : (disarmArmed l s).alarmsLegal :=
  (classifyDisarmed_alarmsLegal h l _ _).setLine l _

end

/-! ## The resets (R149, R150) -/

theorem settleLines_alarmsLegal (ls : List LineId) {s : State} (h : s.alarmsLegal) : (settleLines ls s).alarmsLegal := by
  induction ls generalizing s with
  | nil => exact h
  | cons l ls ih => exact ih (qualifySettling_alarmsLegal h l)

/-- RESTART empties the list and hands its summaries (R150). -/
theorem restartPart_alarmsLegal {s : State} (h : s.alarmsLegal) : (restartPart s).alarmsLegal := by
  have emptied := setEntries_handed_alarmsLegal h EntriesLegal.nil
  have blocks : AlarmsStand (handSummaries (s.setEntries [])) (restartBlocks s) := by
    rw [restartBlocks_eq]
    exact ⟨rfl, rfl, rfl⟩
  rw [restartPart_eq]
  exact settleLines_alarmsLegal _ ((emptied.of_stands blocks).of_stands (restartRecorded_reports s).alarmsStand)

/-- The Alarm List at its hardware reset value (R149). -/
theorem holdInReset_alarmsLegal (s : State) : (holdInReset s).alarmsLegal :=
  ⟨.nil, (by decide : noSummaries = summariesOf []), (by decide : noSummaries = summariesOf [])⟩

/-! ## Every row -/

/-- Every operation that a row asks of a block keeps the Alarm List legal and its summaries handed. -/
theorem rowsKeep_alarmsLegal : RowsKeep State.alarmsLegal where
  pending _ h := h
  freeIndex _ h := h
  lastRead _ h := h
  setSlot _ _ h := h
  tick _ h := h
  sampledInReset l _ _ h := h.setLine l _
  sampled l _ _ h := observeLevel_alarmsLegal (h.setLine l _) l
  qualifySettling l _ _ h := qualifySettling_alarmsLegal h l
  qualifyDeparture l _ _ h := qualifyDeparture_alarmsLegal h l
  qualifyReturn l _ _ h := qualifyReturn_alarmsLegal h l
  closeWindow l _ h := h.setLine l _
  releaseLine l _ _ h := releaseLine_alarmsLegal h l
  takePulse _ _ h := h.of_stands (takePulse_alarmsStand _)
  superviseEnds _ _ h := h.of_stands (superviseEnds_blocksStand _).alarmsStand
  holdAbsorbed _ h := h
  resolveGroup g _ _ h := h.of_stands (resolveGroup_alarmsStand g false _)
  lapse r k _ h := h.of_stands (lapse_alarmsStand .window r k _)
  escalate _ _ _ found alert h := escalate_alarmsLegal h found alert
  lengthExpires _ _ _ h := h
  gapExpires _ _ _ h := h
  holdoffExpires _ _ _ h := h
  flashPhase _ h := h.of_stands (setFlash_alarmsStand _ _)
  readChannelData half _ h := h.of_stands (readChannelData_blocksStand half _).alarmsStand
  statusTaken _ _ h := h
  latchTime _ _ h := h
  stepPort _ _ h := h
  clearTableStatus _ h := h
  writeTableData w _ h := h.of_stands (writeTableData_alarmsStand w _)
  writePortAddress half w _ h := h.of_stands (writePortAddress_blocksStand half w _).alarmsStand
  writeStoreControl _ _ h := h
  writeTimeControl v _ h := h.of_stands (writeTimeControl_blocksStand v _).alarmsStand
  writeTolerance v _ h := h.of_stands (writeTolerance_blocksStand v _).alarmsStand
  writeStepLimit v _ h := h.of_stands (writeStepLimit_blocksStand v _).alarmsStand
  writeSetHigh _ _ h := h
  writeAckRecording _ _ h := h
  writeOutputData _ _ h := h
  writeThreshold half v _ h := h.of_stands (writeThreshold_blocksStand half v _).alarmsStand
  writeHoldoff _ _ _ h := h
  writeChannelCauses half v _ h := h.of_stands (writeChannelCauses_blocksStand half v _).alarmsStand
  writeSystemCauses _ _ _ h := h
  writeSystemRoutes _ _ h := h
  armLine l _ _ h := armDisarmed_alarmsLegal h l
  disarmLine l _ _ h := disarmArmed_alarmsLegal h l
  injectLevel l _ _ _ h := observeLevel_alarmsLegal (h.setLine l _) l
  clearGroup g _ _ h := h.of_stands (clearGroup_alarmsStand g _)
  ruleEnable r _ h := h.of_stands (ruleEnable_alarmsStand r _)
  disableRule r _ h := h.of_stands (disableRule_alarmsStand r _)
  setCounter v _ h := h.of_stands (setCounter_alarmsStand v _)
  takeSnapshot _ h := h.of_stands (report_alarmsStand _ _ _ _)
  clearStore _ h := h.of_stands (clearStore_blocksStand _).alarmsStand
  requestPulse _ _ h := h
  ackLine tag half l _ h := ackLine_alarmsLegal tag half l h
  ackAll tag half _ h := ackAll_alarmsLegal tag half h
  silenceEntries half _ h := silenceEntries_alarmsLegal h half
  mark _ _ _ h := h.of_stands (report_alarmsStand _ _ _ _)
  restartPart _ h := restartPart_alarmsLegal h
  enableFromOldest half _ h := h.of_stands (enableFromOldest_blocksStand half _).alarmsStand
  enableFromNext half _ h := h.of_stands (enableFromNext_blocksStand half _).alarmsStand
  disableChannel half _ h := h.of_stands (disableChannel_blocksStand half _).alarmsStand
  skipRecord half _ h := h.of_stands (skipRecord_blocksStand half _).alarmsStand
  rereadRecord half _ h := h.of_stands (rereadRecord_blocksStand half _).alarmsStand
  holdInReset _ := holdInReset_alarmsLegal _
  releaseReset {s} _ := State.alarmsLegal.of_stands (s := { Machine.holdInReset s with inReset := false })
    (holdInReset_alarmsLegal s) (report_alarmsStand _ _ _ _)

/-- Settles O47: every operation keeps the Alarm List legal and its summaries handed, so every step does. -/
theorem alarmsLegalAfterEveryStep : Obligations.AlarmsLegalAfterEveryStep :=
  fun s t legal ran => (t.alarmsLegal_iff).mp (rowsKeep_alarmsLegal.step (s.alarmsLegal_iff.mpr legal) ran)

end Sys2Proof.Machine

/-! PROOFS. AlarmEntries: departures, returns, chatter and withdrawals at the Alarm List (O42). -/
namespace Sys2Proof.Machine

/-- The escalation timer in microseconds (Table 31: seconds). -/
theorem escalationTimer_eq (s : State) (p : Fin 4) : s.escalationTimer p =
    if (s.alarms.escalation.get p).time = 0 then none
    else some (s.time.elapsed + 1000000 * (s.alarms.escalation.get p).time.toNat) := by
  unfold State.escalationTimer State.inMillis
  dsimp only
  rw [← Nat.mul_assoc]

/-- A created entry, in ALERT at the end of the list with its timer started (R133). -/
theorem createEntry_appends (ev : AlarmEvent) (chatter : Bool) (s : State) : (createEntry ev chatter s).alarms.entries =
    s.alarms.entries ++ [{ line := ev.line, phase := .alert, priority := ev.priority, first := ev.stamp, ref := ev.ref,
                           repeats := 0, test := ev.test, chatter := chatter, silenced := false,
                           timer := s.escalationTimer ev.priority }] := rfl

/-- A departure or a chatter on of a line without an entry creates one (R133, R135). -/
theorem departure_creates {ev : AlarmEvent} {s : State} (none_ : s.alarmOf ev.line = none) (chatter : Bool) :
    (if chatter then alarmChatterOn ev s else alarmDeparture ev s) = createEntry ev chatter s := by
  cases chatter with
  | true => exact alarmChatterOn_none none_
  | false => exact alarmDeparture_none none_

section
variable {s : State} {l : LineId} {e : AlarmEntry}

/-- The entry found after it was changed. -/
theorem setEntries_changed_found {f : AlarmEntry → AlarmEntry} (found : s.alarmOf l = some e)
    (line : ∀ x, (f x).line = x.line) : (s.setEntries (changeEntry l f s.alarms.entries)).alarmOf l = some (f e) := by
  rw [alarmOf_changed (s := s) rfl line, found, Option.map_some]

/-- The entry of a RETURNED line after a departure (R132). -/
theorem alarmDeparture_returned_entry {ev : AlarmEvent} (found : s.alarmOf ev.line = some e) (returned : e.phase = .returned) :
    (alarmDeparture ev s).alarmOf ev.line = some (e.again ev.test s.escalationTimer) := by
  rw [alarmDeparture_returned found returned]
  exact setEntries_changed_found found fun _ => rfl

/-- The entry of a line in ALERT after a return (R134). -/
theorem alarmReturn_alert_entry (found : s.alarmOf l = some e) (alert : e.phase = .alert) :
    (alarmReturn l s).alarmOf l = some { e with phase := .returned, timer := none } := by
  rw [alarmReturn_alert found alert]
  exact setEntries_changed_found found fun _ => rfl

/-- The entry of an ACKED line after a return, with ack mode BOTH (R134). -/
theorem alarmReturn_acked_both_entry (found : s.alarmOf l = some e) (acked : e.phase = .acked)
    (both : (s.lineTable.get l).ackMode = .both) : (alarmReturn l s).alarmOf l = some { e with phase := .returned } := by
  rw [alarmReturn_acked_both found acked both]
  exact setEntries_changed_found found fun _ => rfl

/-- With another ack mode the line has none (R134). -/
theorem alarmReturn_acked_depart_entry (found : s.alarmOf l = some e) (acked : e.phase = .acked)
    (depart : (s.lineTable.get l).ackMode ≠ .both) : (alarmReturn l s).alarmOf l = none := by
  rw [alarmReturn_acked_depart found acked depart]
  exact alarmOf_removed (s := s) rfl

/-- A change of an entry that is not there changes nothing. -/
theorem setEntries_changed_absent {f : AlarmEntry → AlarmEntry} (none_ : s.alarmOf l = none) :
    s.setEntries (changeEntry l f s.alarms.entries) = s := by
  rw [changeEntry_absent (alarmOf_none_iff.mp none_)]
  rfl

/-- The summaries follow a withdrawal (R136, R147). -/
theorem alarmWithdraw_summaries (found : s.alarmOf l = some e) :
    (alarmWithdraw l s).alarms.summaries = summariesOf (alarmWithdraw l s).alarms.entries := by
  rw [alarmWithdraw_some found]
  rfl

theorem alarmWithdraw_handed (found : s.alarmOf l = some e) (current : s.outputs.handed = s.alarms.summaries) :
    (alarmWithdraw l s).outputs.handed = (alarmWithdraw l s).alarms.summaries := by
  rw [alarmWithdraw_some found]
  exact handSummaries_handed (s := s.setEntries (removeEntry l s.alarms.entries)) current

theorem alarmWithdraw_irq (l : LineId) (s : State) : (alarmWithdraw l s).irq = s.irq := by
  unfold alarmWithdraw
  split <;> rfl

end

/-- DISARM LINE withdraws the line's entry unless the ack mode is NONE (R44, R136). -/
theorem disarmArmed_alarms (l : LineId) (s : State) :
    ((s.lineTable.get l).ackMode = .off → (disarmArmed l s).alarms = s.alarms) ∧
    ((s.lineTable.get l).ackMode ≠ .off → (disarmArmed l s).alarms.entries = removeEntry l s.alarms.entries) := by
  have recorded := (report_onlyReports s.now (s.lines.get l).injected.isSome (.disarmed l) s).alarms
  have handed : (disarmArmed l s).alarms = (classifyDisarmed l s.now (s.lines.get l).injected.isSome s).alarms := rfl
  rw [handed]
  unfold classifyDisarmed
  dsimp only
  constructor
  · intro off
    rw [if_pos off, recorded]
  · intro acked
    rw [if_neg acked, alarmWithdraw_entries, recorded]

/-- Settles O42, by the state of the line's entry. -/
theorem alarmEntryFollowsTheLine : Obligations.AlarmEntryFollowsTheLine := by
  refine ⟨fun ev chatter s timer timerIs => ⟨fun none_ => ?creates, fun e found => ⟨?again, ?stands, ?returns, ?both, ?depart,
    ?settled⟩⟩, fun ev atNormal s c cIs => ⟨?chatterOn, ?chatterOff, ?absent, ?cleared⟩,
    fun l s => ⟨alarmWithdraw_none, fun e found => ?withdrawn, fun running at_ armed => ?disarm⟩⟩
  case creates =>
    rw [departure_creates none_, createEntry_appends, escalationTimer_eq, timerIs]
    exact ⟨rfl, createEntry_cause ev chatter s, alarmReturn_none none_⟩
  case again =>
    intro returned
    rw [alarmDeparture_returned_entry found returned, AlarmEntry.again, escalationTimer_eq, timerIs]
  case stands => exact alarmDeparture_stands found
  case returns => exact alarmReturn_alert_entry found
  case both => exact alarmReturn_acked_both_entry found
  case depart => exact alarmReturn_acked_depart_entry found
  case settled => exact alarmReturn_returned found
  case chatterOn => exact fun e found => alarmChatterOn_some found
  case chatterOff =>
    rw [cIs]
    rfl
  case absent =>
    intro none_
    rw [cIs]
    exact setEntries_changed_absent none_
  case cleared =>
    intro e found
    rw [cIs]
    exact setEntries_changed_found (f := fun x => { x with chatter := false }) found fun _ => rfl
  case withdrawn =>
    exact ⟨alarmWithdraw_entries l s, alarmWithdraw_summaries found, alarmWithdraw_handed found, alarmWithdraw_store l s,
      alarmWithdraw_irq l s⟩
  case disarm => exact ⟨_, exec_disarmLine running at_ (disarmLine_armed armed) rfl, disarmArmed_alarms l s⟩

end Sys2Proof.Machine

/-! PROOFS. Operators: ACK LINE, ACK ALL and SILENCE (O43, O44, O45), and an escalation timer's expiry (O46). -/
namespace Sys2Proof.Machine

/-! ## The commands and the expiry taken -/

section
variable {s t : State} {h : Half} {c : ResultCode} {result : Word}

theorem exec_ackLine {l : LineId} (running : s.inReset = false) (at_ : (s.slots.get h).arg0.toNat = l.val)
    (acted : ackLine (s.slots.get h).arg1 h l s = (c, t)) (word : resultWord c 0x20 = result) :
    exec (.ackLine h) s = .next (t.setSlot h ((s.slots.get h).answered 0x20 result)) := by
  refine command_next running ?_ word
  rw [operand_inRange l at_, withOperand_some, acted]

theorem exec_ackAll (running : s.inReset = false) (acted : ackAll (s.slots.get h).arg1 h s = (c, t))
    (word : resultWord c 0x21 = result) :
    exec (.ackAll h) s = .next (t.setSlot h ((s.slots.get h).answered 0x21 result)) := command_next running acted word

theorem exec_silence (running : s.inReset = false) : exec (.silence h) s =
    .next ((silenceEntries h s).setSlot h ((s.slots.get h).answered 0x22 0x2201)) := command_next running rfl (by decide)

end

theorem exec_escalationTimerExpiry {l : LineId} {s : State} {e : AlarmEntry} (running : s.inReset = false)
    (clock : s.clockRunning = true) (found : s.alarmOf l = some e) (alert : e.phase = .alert)
    (timer : e.timer.isSome = true) : exec (.escalationTimerExpiry l) s = .next (escalate e s) := by
  have expires : (match s.alarmOf l with
      | none => s
      | some e => if e.phase = .alert ∧ e.timer.isSome then escalate e s else s) = escalate e s := by
    rw [found]
    exact if_pos ⟨alert, timer⟩
  exact congrArg Host.Outcome.next ((timed_running _ running clock).trans expires)

/-! ## ACK LINE (R137, R138, R140) -/

/-- An acknowledgement that changed an entry hands the summaries (R138, R147). -/
theorem acknowledged_changed {r : Bool × State} (changed : r.1 = true) : acknowledged r = (.done, handSummaries r.2) :=
  if_pos changed

/-- Acknowledgements leave the lines, the groups and the rules alone. -/
theorem ackEntries_blocks (tag : Word) (side : Half) (ls : List LineId) (r : Bool × State) :
    OnlyEvents r.2 (handSummaries (ackEntries tag side ls r).2) ∧
    (handSummaries (ackEntries tag side ls r).2).lines = r.2.lines ∧
    (handSummaries (ackEntries tag side ls r).2).groups = r.2.groups ∧
    (handSummaries (ackEntries tag side ls r).2).rules = r.2.rules :=
  have handled := (ackEntries_handled tag side ls r).trans (handSummaries_handled _)
  ⟨handled.events, handled.lines, ackEntries_groups tag side ls r, (ackEntries_engineStands tag side ls r).rules⟩

/-- One line's acknowledgement is that of a list of one. -/
theorem ackEntries_single (tag : Word) (side : Half) (l : LineId) (s : State) :
    ackEntries tag side [l] (false, s) = ackEntry tag side l s := rfl

/-- Settles O43. -/
theorem ackLineActsOnTheEntry : Obligations.AckLineActsOnTheEntry := by
  refine fun h l s running at_ => ⟨fun e found acts => ?acts, fun stands => ?stands⟩
  case acts =>
    have acted := ackEntry_acts (tag := (s.slots.get h).arg1) (side := h) found acts
    have entries := ackEntry_acts_entries (tag := (s.slots.get h).arg1) (side := h) found acts
    obtain ⟨events, lines, groups, rules⟩ := ackEntries_blocks (s.slots.get h).arg1 h [l] (false, s)
    rw [ackEntries_single] at events lines groups rules
    rw [ackedEntries, (alarmOf_mem found).2] at entries
    refine ⟨_, exec_ackLine running at_ (acknowledged_changed (by rw [acted])) (by decide), events, lines, groups, rules,
      fun alert => ?_, fun returned => ?_, rfl, fun off => ackEntry_store_off off, fun on whole room => ?_⟩
    · exact entries.trans (if_pos alert)
    · exact entries.trans (if_neg (by rw [returned]; decide))
    · exact congrArg Store.records (ackEntry_written found acts on whole room)
  case stands =>
    have same : ackEntry (s.slots.get h).arg1 h l s = (false, s) := by
      refine ackEntry_stands fun e found => ?_
      rcases stands with none_ | ⟨x, there, acked⟩
      · rw [none_] at found; cases found
      · rw [there] at found; cases found; exact acked
    exact exec_ackLine running at_ (by rw [ackLine, same]; rfl) (by decide)

/-! ## ACK ALL (R139) -/

/-- Among entries that are all ACKED nothing is acknowledged. -/
theorem ackEntries_stands (tag : Word) (side : Half) {s : State} (acked : ∀ e ∈ s.alarms.entries, e.phase = .acked)
    (ls : List LineId) (b : Bool) : ackEntries tag side ls (b, s) = (b, s) := by
  induction ls with
  | nil => rfl
  | cons l ls ih =>
    rw [ackEntries, ackEntry_stands fun e found => acked e (alarmOf_mem found).1, Bool.or_false]
    exact ih

section
variable {s : State} {pre es : List AlarmEntry} {e : AlarmEntry}

/-- In a list with one entry for each line, an entry is the one found for its line. -/
theorem alarmOf_inside (is : s.alarms.entries = pre ++ e :: es)
    (once : ((pre ++ e :: es).map AlarmEntry.line).Nodup) : s.alarmOf e.line = some e := by
  cases found : s.alarmOf e.line with
  | none => exact absurd rfl (alarmOf_none_iff.mp found e (by rw [is]; simp))
  | some x => exact congrArg some (eq_of_alarmOf (by rw [is]; exact once) found (by rw [is]; simp) rfl).symm

/-- An acknowledged entry gives way in its place to what the acknowledgement leaves of it (R138). -/
theorem ackedEntries_inside (once : ((pre ++ e :: es).map AlarmEntry.line).Nodup) (acts : e.phase ≠ .acked) :
    ackedEntries e (pre ++ e :: es) = pre ++ e.acknowledged.toList ++ es := by
  rw [List.map_append, List.map_cons, List.nodup_append] at once
  obtain ⟨-, tail, apart⟩ := once
  have before : ∀ x ∈ pre, x.line ≠ e.line := fun x inside =>
    apart x.line (List.mem_map_of_mem inside) e.line List.mem_cons_self
  have after : ∀ x ∈ es, x.line ≠ e.line := fun x inside same =>
    (List.nodup_cons.mp tail).1 (same ▸ List.mem_map_of_mem inside)
  unfold ackedEntries AlarmEntry.acknowledged
  cases phase : e.phase with
  | acked => exact absurd phase acts
  | alert =>
    have changed : ∀ f, changeEntry e.line f (pre ++ e :: es) = pre ++ f e :: es := fun f => by
      have pres := changeEntry_absent (f := f) before
      have posts := changeEntry_absent (f := f) after
      unfold changeEntry at pres posts ⊢
      rw [List.map_append, List.map_cons, pres, posts, if_pos rfl]
    rw [if_pos rfl, changed]
    simp
  | returned =>
    have pres := removeEntry_absent before
    have posts := removeEntry_absent after
    unfold removeEntry at pres posts ⊢
    rw [if_neg (by decide), List.filter_append, List.filter_cons, pres, posts]
    simp

variable (tag : Word) (side : Half)

/-- One entry of ACK ALL: it gives way to what its acknowledgement leaves of it, and changes where it was not ACKED. -/
theorem ackEntry_inside (is : s.alarms.entries = pre ++ e :: es)
    (once : ((pre ++ e :: es).map AlarmEntry.line).Nodup) :
    (ackEntry tag side e.line s).1 = decide (e.phase ≠ .acked) ∧
    (ackEntry tag side e.line s).2.alarms.entries = pre ++ e.acknowledged.toList ++ es := by
  have found := alarmOf_inside is once
  by_cases acked : e.phase = .acked
  · rw [ackEntry_stands fun x other => by rw [found] at other; cases other; exact acked]
    exact ⟨by simp [acked], by simp [is, AlarmEntry.acknowledged, acked]⟩
  · refine ⟨by rw [ackEntry_acts found acked]; simp [acked], ?_⟩
    rw [ackEntry_acts_entries found acked, is, ackedEntries_inside once acked]

end

/-- The entries left by an acknowledgement are on the lines they were on, in order. -/
theorem acknowledged_lines (e : AlarmEntry) : (e.acknowledged.toList.map AlarmEntry.line).Sublist [e.line] := by
  unfold AlarmEntry.acknowledged
  split <;> simp

/-- An acknowledgement gives no line a second entry. -/
theorem acknowledged_once {pre es : List AlarmEntry} {e : AlarmEntry} (once : ((pre ++ e :: es).map AlarmEntry.line).Nodup) :
    ((pre ++ e.acknowledged.toList ++ es).map AlarmEntry.line).Nodup := by
  refine once.sublist ?_
  rw [List.append_assoc, List.map_append, List.map_append, List.map_append, List.map_cons]
  exact ((acknowledged_lines e).append_right (es.map AlarmEntry.line)).append_left (pre.map AlarmEntry.line)

/-- ACK ALL goes through the entries in list order: those before the one it has come to are done (R139). -/
theorem ackEntries_entries (tag : Word) (side : Half) (es : List AlarmEntry) {pre : List AlarmEntry} {b : Bool} {s : State}
    (is : s.alarms.entries = pre ++ es) (once : ((pre ++ es).map AlarmEntry.line).Nodup) :
    (ackEntries tag side (es.map AlarmEntry.line) (b, s)).1 = (b || es.any fun e => decide (e.phase ≠ .acked)) ∧
    (ackEntries tag side (es.map AlarmEntry.line) (b, s)).2.alarms.entries = pre ++ es.filterMap AlarmEntry.acknowledged := by
  induction es generalizing pre b s with
  | nil => simpa [ackEntries] using is
  | cons e es ih =>
    obtain ⟨changed, entries⟩ := ackEntry_inside tag side is once
    obtain ⟨flag, rest⟩ := ih (b := b || (ackEntry tag side e.line s).1) entries (acknowledged_once once)
    rw [List.map_cons, ackEntries]
    refine ⟨by rw [flag, changed, List.any_cons, Bool.or_assoc], ?_⟩
    rw [rest, List.append_assoc, List.filterMap_cons]
    cases e.acknowledged <;> rfl

/-- With ACK recording off ACK ALL leaves the store alone (R140). -/
theorem ackEntries_store_off (tag : Word) (side : Half) (ls : List LineId) {r : Bool × State}
    (off : r.2.alarms.ackRecording = false) : (ackEntries tag side ls r).2.store = r.2.store := by
  induction ls generalizing r with
  | nil => rfl
  | cons l ls ih =>
    have still := (ackEntry_handled tag side l r.2).events.ackRecording.trans off
    exact (ih (r := (r.1 || (ackEntry tag side l r.2).1, (ackEntry tag side l r.2).2)) still).trans (ackEntry_store_off off)

/-- The ACK record of an acknowledged entry (R64, R140). -/
def AlarmEntry.ackRecordOf (e : AlarmEntry) (tag : Word) (side : Half) (stamp : Stamp) (number : Word) : Record :=
  ⟨number, stamp, e.test, .ack e.line e.ackResult tag side⟩

/-- With ACK recording on and room for them all, one ACK record is appended for each entry changed, in list order, under
consecutive numbers: the one at place i among them takes base + i (R66, R139, R140). -/
theorem ackEntries_records (tag : Word) (side : Half) (base : Word) (stamp : Stamp) (es : List AlarmEntry)
    {pre : List AlarmEntry} {b : Bool} {s : State} (i : Nat) (is : s.alarms.entries = pre ++ es)
    (once : ((pre ++ es).map AlarmEntry.line).Nodup) (now : s.now = stamp) (next : s.store.next = base + BitVec.ofNat 16 i)
    (on : s.alarms.ackRecording = true) (whole : s.store.loss = none)
    (room : 7 * (es.filter fun e => decide (e.phase ≠ .acked)).length + 5 ≤ s.store.free) :
    (ackEntries tag side (es.map AlarmEntry.line) (b, s)).2.store.records = s.store.records ++
      ((es.filter fun e => decide (e.phase ≠ .acked)).zipIdx i).map fun x =>
        x.1.ackRecordOf tag side stamp (base + BitVec.ofNat 16 x.2) := by
  induction es generalizing pre b s i with
  | nil => exact (List.append_nil _).symm
  | cons e es ih =>
    have found := alarmOf_inside is once
    obtain ⟨-, entries⟩ := ackEntry_inside tag side is once
    have events := (ackEntry_handled tag side e.line s).events
    rw [List.map_cons, ackEntries]
    by_cases acked : e.phase = .acked
    · have stands : ackEntry tag side e.line s = (false, s) :=
        ackEntry_stands fun x other => by rw [found] at other; cases other; exact acked
      rw [stands] at entries ⊢
      rw [List.filter_cons_of_neg (by simp [acked])] at room ⊢
      exact ih i entries (acknowledged_once once) now next on whole room
    · rw [List.filter_cons_of_pos (by simp [acked])] at room ⊢
      rw [List.length_cons] at room
      have written := ackEntry_written (tag := tag) (side := side) found acked on whole (by omega)
      have left : 7 * (es.filter fun e => decide (e.phase ≠ .acked)).length + 5 ≤
          (ackEntry tag side e.line s).2.store.free := by
        rw [written, Store.written_free]
        show _ ≤ s.store.free - 7
        omega
      have second : (ackEntry tag side e.line s).2.store.next = base + BitVec.ofNat 16 (i + 1) := by
        rw [written, BitVec.ofNat_add, ← BitVec.add_assoc, ← next]
        rfl
      have none_ : (ackEntry tag side e.line s).2.store.loss = none := by rw [written]; exact whole
      have later : (ackEntry tag side e.line s).2.now = stamp := by rw [State.now, events.time]; exact now
      rw [ih (i + 1) entries (acknowledged_once once) later second (events.ackRecording.trans on) none_ left, written,
        List.zipIdx_cons, List.map_cons, ← next, ← now]
      exact List.append_assoc _ _ _

/-- Settles O44. -/
theorem ackAllVisitsEveryEntry : Obligations.AckAllVisitsEveryEntry := by
  refine fun h s running once => ⟨fun changes => ?changes, fun acked => ?stands⟩
  case changes =>
    obtain ⟨flag, entries⟩ := ackEntries_entries (s.slots.get h).arg1 h s.alarms.entries (pre := []) (b := false) rfl once
    obtain ⟨events, lines, groups, rules⟩ :=
      ackEntries_blocks (s.slots.get h).arg1 h (s.alarms.entries.map AlarmEntry.line) (false, s)
    have changed : (ackEntries (s.slots.get h).arg1 h (s.alarms.entries.map AlarmEntry.line) (false, s)).1 = true := by
      rw [flag]
      simpa using changes
    refine ⟨_, exec_ackAll running (acknowledged_changed changed) (by decide), events, lines, groups, rules,
      entries, rfl, fun off => ackEntries_store_off _ h _ off, fun acted actedIs on whole room => ?_⟩
    subst actedIs
    exact ackEntries_records _ h s.store.next s.now s.alarms.entries (pre := []) 0 rfl once rfl (BitVec.add_zero _).symm on
      whole room
  case stands =>
    exact exec_ackAll running (by rw [ackAll, ackEntries_stands _ h acked]; rfl) (by decide)

/-! ## SILENCE (R141) -/

theorem silenceEntries_summaries (side : Half) (s : State) :
    (silenceEntries side s).alarms.summaries = summariesOf (silenceEntries side s).alarms.entries := by
  rw [silenceEntries, (report_onlyReports _ _ _ _).alarms]
  rfl

/-- With room in the store the SILENCE record alone is appended, with the count of the flags set. -/
theorem silenceEntries_written {side : Half} {s : State} (whole : s.store.loss = none) (room : 11 ≤ s.store.free) :
    (silenceEntries side s).store = s.store.written s.now false
      (.silence (s.alarms.entries.filter fun e => e.phase = .alert && !e.silenced).length side) :=
  report_fits (s := handSummaries (s.setEntries _)) whole room

/-- Settles O45. -/
theorem silenceSetsTheFlags : Obligations.SilenceSetsTheFlags := by
  intro h s running
  have handled := silenceEntries_handled h s
  exact ⟨_, exec_silence running, handled.events, handled.lines, silenceEntries_groups h s,
    (silenceEntries_engineStands h s).rules, silenceEntries_entries h s, silenceEntries_summaries h s,
    fun whole room => congrArg Store.records (silenceEntries_written whole room)⟩

/-! ## An escalation timer's expiry (R143, R144) -/

/-- A request changes the outputs as they and the elapsed time have it, whatever summaries they were handed (R158). -/
theorem requestAction_lines_congr (a : Option OutputId) {s t : State} (lines : t.outputs.lines = s.outputs.lines)
    (time : t.time = s.time) : (requestAction a t).outputs.lines = (requestAction a s).outputs.lines := by
  cases a with
  | none => exact lines
  | some q =>
    show (requestPulse q t).outputs.lines = (requestPulse q s).outputs.lines
    unfold requestPulse
    rw [setOutput_outputs, setOutput_outputs, lines, time]

section
variable (e : AlarmEntry) (s : State)

theorem escalationRecorded_reports : OnlyReports (escalationRaised e s) (report s.now e.test
    (.escalate e.line (raisePriority e.priority)) (escalationRaised e s)) := report_onlyReports _ _ _ _

/-- The action of the priority left is asked for (R144, step 5). -/
theorem escalate_outputs : (escalate e s).outputs.lines =
    (requestAction (s.alarms.escalation.get e.priority).action s).outputs.lines := by
  have reports := escalationRecorded_reports e s
  rw [escalate_eq]
  refine requestAction_lines_congr _ ?_ ?_
  · unfold escalationRecorded
    rw [raise_outputs, reports.outputs]
    rfl
  · unfold escalationRecorded
    rw [raise_time, reports.time]
    rfl

/-- The ESCALATED cause is set (R144, step 4). -/
theorem escalate_cause : (escalate e s).causeSet .escalated = true := by
  rw [escalate_eq]
  exact ((requestAction_handled _ _).trans (setEntries_handled _ _)).causes _ (raise_sets .escalated _)

/-- With room in the store the ESCALATE record alone is appended (R144, step 3). -/
theorem escalate_written (whole : s.store.loss = none) (room : 11 ≤ s.store.free) : (escalate e s).store =
    s.store.written s.now e.test (.escalate e.line (raisePriority e.priority)) := by
  rw [escalate_eq, setEntries_store, escalationAsked, requestAction_store, escalationRecorded, raise_store]
  exact report_fits (s := escalationRaised e s) whole room

end

/-- Settles O46. -/
theorem escalationRaisesThePriority : Obligations.EscalationRaisesThePriority := by
  intro l s e p running clock found alert timer pIs
  have own := (alarmOf_mem found).2
  have handled := escalate_handled e s
  have priority := raisePriority_eq pIs
  refine ⟨_, exec_escalationTimerExpiry running clock found alert timer, handled.events, handled.lines, escalate_groups e s,
    (escalate_engineStands e s).rules, ?_, escalate_cause e s, ?_, fun whole room => ?_⟩
  · have entries := escalate_entries e s
    rw [own, priority, escalationTimer_eq] at entries
    rw [alarmOf_changed entries fun _ => rfl, found]
    rfl
  · rw [escalate_outputs]
    cases (s.alarms.escalation.get e.priority).action <;> rfl
  · rw [escalate_written e s whole room, own, priority]
    rfl

end Sys2Proof.Machine

/-! PROOFS. OutputLaws: what a request, a pulse timer's expiry and a write of the mode make of one output, and that each keeps its
pulse state legal (R159 to R166). -/
namespace Sys2Proof.Machine

section
variable {o : OutputLine}

/-! ## Requests and writes, case by case -/

/-- A request in IDLE, and one under RESTART in any pulse state, starts the pulse (R159). -/
theorem OutputLine.request_starts (starts : o.phase = .idle ∨ o.retrigger = .restart) (elapsed : Nat) :
    o.request elapsed = o.startPulse elapsed := by
  unfold OutputLine.request
  rcases starts with idle | restart
  · rw [idle]
  · rw [restart]
    cases o.phase <;> rfl

/-- A request under QUEUE while a pulse or a gap runs is queued, or dropped with 15 held (R159). -/
theorem OutputLine.request_queues (busy : o.phase ≠ .idle) (queue : o.retrigger = .queue) (elapsed : Nat) :
    o.request elapsed = if 15 ≤ o.queued then o.drop else { o with queued := o.queued + 1 } := by
  unfold OutputLine.request
  rw [queue]
  cases phase : o.phase with
  | idle => exact absurd phase busy
  | pulsing => rfl
  | gap => rfl

theorem OutputLine.setMode_same (o : OutputLine) : o.setMode o.mode = o := if_pos rfl

theorem OutputLine.setMode_other {m : OutputMode} (other : o.mode ≠ m) : o.setMode m = { o with mode := m }.rest :=
  if_neg other

/-- A word 0 that is accepted sets the mode as R164 gives, and its other fields (R153). -/
theorem OutputLine.setWord0_accepted {x : OutputLine} {w : Word} (taken : o.setWord0 w = some x) :
    field w 5 3 ≤ 3 ∧ ∃ d, Drive.ofCode (field w 2 2) = some d ∧ x =
      { o.setMode (OutputMode.ofCode (field w 0 2)) with
        drive := d
        polarity := Polarity.ofBit (bit w 4)
        threshold := Fin.ofNat 4 (field w 5 3)
        retrigger := Retrigger.ofBit (bit w 8) } := by
  unfold OutputLine.setWord0 at taken
  split at taken
  · cases taken
  · next inRange =>
    obtain ⟨d, drive, is⟩ := Option.map_eq_some_iff.mp taken
    exact ⟨Nat.not_lt.mp inRange, d, drive, is.symm⟩

/-- A word that only 0 is refused for is not 0 where it is accepted. -/
theorem above_accepted {α : Type} {a x : α} {w : Word} (taken : (if w = 0 then none else some a) = some x) : w ≠ 0 ∧ x = a := by
  split at taken
  · cases taken
  · next above => exact ⟨above, (Option.some.inj taken).symm⟩

/-- A length that is accepted is not 0 (R153). -/
theorem OutputLine.setWord1_accepted {x : OutputLine} {w : Word} (taken : o.setWord 1 w = some x) :
    w ≠ 0 ∧ x = { o with length := w } := above_accepted taken

/-- A gap that is accepted is not 0 (R153). -/
theorem OutputLine.setWord2_accepted {x : OutputLine} {w : Word} (taken : o.setWord 2 w = some x) :
    w ≠ 0 ∧ x = { o with gap := w } := above_accepted taken

/-! ## Each keeps the pulse state legal -/

theorem OutputLine.drop_legal (h : o.legal) : o.drop.legal := h

theorem OutputLine.legal.times (h : o.legal) : o.length ≠ 0 ∧ o.gap ≠ 0 := by
  obtain ⟨-, -, -, -, times⟩ := h
  exact times

theorem OutputLine.rest_legal (times : o.length ≠ 0 ∧ o.gap ≠ 0) : o.rest.legal :=
  ⟨fun _ => rfl, fun _ => ⟨rfl, rfl⟩, fun busy => absurd rfl busy, Nat.zero_le 15, times⟩

/-- Only an output in PULSE mode is in PULSING or GAP (R164). -/
theorem OutputLine.legal.mode_of_busy (h : o.legal) (busy : o.phase ≠ .idle) : o.mode = .pulse := by
  obtain ⟨outside, -⟩ := h
  exact of_not_not fun other => busy (outside other)

/-- An output in PULSE mode that enters PULSING or GAP with its timer started (R159, R160). -/
theorem OutputLine.begun_legal (h : o.legal) (pulse : o.mode = .pulse) {p : PulsePhase} (busy : p ≠ .idle) (expires : Nat) :
    { o with phase := p, timer := some expires }.legal := by
  obtain ⟨-, -, -, few, times⟩ := h
  exact ⟨fun other => absurd pulse other, fun idle => absurd idle busy, fun _ => rfl, few, times⟩

theorem OutputLine.startPulse_legal (h : o.legal) (pulse : o.mode = .pulse) (elapsed : Nat) : (o.startPulse elapsed).legal :=
  OutputLine.begun_legal h pulse (by decide) _

theorem OutputLine.startGap_legal (h : o.legal) (pulse : o.mode = .pulse) (elapsed : Nat) : (o.startGap elapsed).legal :=
  OutputLine.begun_legal h pulse (by decide) _

/-- A pulse or gap running, as many as 15 requests may be held (R159). -/
theorem OutputLine.requeued_legal (h : o.legal) (busy : o.phase ≠ .idle) {n : Nat} (few : n ≤ 15) :
    { o with queued := n }.legal := by
  obtain ⟨outside, -, timed, -, times⟩ := h
  exact ⟨outside, fun idle => absurd idle busy, timed, few, times⟩

theorem OutputLine.request_legal (h : o.legal) (pulse : o.mode = .pulse) (elapsed : Nat) : (o.request elapsed).legal := by
  by_cases starts : o.phase = .idle ∨ o.retrigger = .restart
  · rw [OutputLine.request_starts starts]
    exact OutputLine.startPulse_legal h pulse elapsed
  · obtain ⟨busy, other⟩ := not_or.mp starts
    have queue : o.retrigger = .queue := by
      cases policy : o.retrigger with
      | restart => exact absurd policy other
      | queue => rfl
    rw [OutputLine.request_queues busy queue]
    split
    · exact OutputLine.drop_legal h
    · exact OutputLine.requeued_legal h busy (by omega)

theorem OutputLine.lengthExpires_legal (h : o.legal) (pulsing : o.phase = .pulsing) (elapsed : Nat) :
    (o.lengthExpires elapsed).legal := by
  have pulse : o.mode = .pulse := h.mode_of_busy (by rw [pulsing]; decide)
  unfold OutputLine.lengthExpires
  split
  · exact OutputLine.startGap_legal h pulse elapsed
  · split
    · exact OutputLine.rest_legal h.times
    · exact OutputLine.startGap_legal h pulse elapsed

theorem OutputLine.gapExpires_legal (h : o.legal) (inGap : o.phase = .gap) (elapsed : Nat) :
    (o.gapExpires elapsed).legal := by
  have busy : o.phase ≠ .idle := by rw [inGap]; decide
  have pulse : o.mode = .pulse := h.mode_of_busy busy
  obtain ⟨-, -, -, few, -⟩ := id h
  unfold OutputLine.gapExpires
  split
  · exact OutputLine.rest_legal h.times
  · exact OutputLine.startPulse_legal (OutputLine.requeued_legal h busy ((Nat.sub_le _ 1).trans few)) pulse elapsed

theorem OutputLine.setMode_legal (h : o.legal) (m : OutputMode) : (o.setMode m).legal := by
  by_cases same : o.mode = m
  · rw [← same, OutputLine.setMode_same]
    exact h
  · rw [OutputLine.setMode_other same]
    exact OutputLine.rest_legal h.times

theorem OutputLine.restarted_legal (h : o.legal) : o.restarted.legal := by
  unfold OutputLine.restarted
  split
  · exact OutputLine.rest_legal h.times
  · exact h

/-- The words of an OUTPUT entry that may be written keep it legal: 0 is refused for its pulse times (R153, R164, R166). -/
theorem OutputLine.setWord_legal (h : o.legal) {x : OutputLine} {n : Nat} {w : Word} (taken : o.setWord n w = some x) :
    x.legal := by
  match n with
  | 0 =>
    obtain ⟨-, d, -, rfl⟩ := OutputLine.setWord0_accepted taken
    exact OutputLine.setMode_legal h _
  | 1 =>
    obtain ⟨above, rfl⟩ := OutputLine.setWord1_accepted taken
    obtain ⟨outside, idle, timed, few, -, gap⟩ := h
    exact ⟨outside, idle, timed, few, above, gap⟩
  | 2 =>
    obtain ⟨above, rfl⟩ := OutputLine.setWord2_accepted taken
    obtain ⟨outside, idle, timed, few, length, -⟩ := h
    exact ⟨outside, idle, timed, few, length, above⟩
  | 3 => cases taken
  | 4 => cases taken; exact h
  | _ + 5 => cases taken

end

end Sys2Proof.Machine

/-! PROOFS. Requested: the handling of an event reaches the outputs' lines by pulse requests alone (R158). -/
namespace Sys2Proof.Machine

/-- The outputs' lines of t come from those of s by pulse requests. -/
inductive Requested : State → State → Prop
  | stand {s t : State} (lines : t.outputs.lines = s.outputs.lines) : Requested s t
  | request (q : OutputId) (s : State) : Requested s (requestPulse q s)
  | trans {s t u : State} (a : Requested s t) (b : Requested t u) : Requested s u

theorem Requested.refl (s : State) : Requested s s := .stand rfl

/-- Either of two states comes by requests. -/
theorem Requested.ite {s t u : State} {c : Prop} [Decidable c] (a : Requested s t) (b : Requested s u) :
    Requested s (if c then t else u) := by
  split
  · exact a
  · exact b

theorem OnlyReports.requested {s t : State} (a : OnlyReports s t) : Requested s t := .stand (by rw [a.outputs])

theorem OnlyAlarms.requested {s t : State} (a : OnlyAlarms s t) : Requested s t := .stand a.outputs

theorem BlocksStand.requested {s t : State} (a : BlocksStand s t) : Requested s t := .stand (by rw [a.outputs])

theorem report_requested (stamp : Stamp) (test : Bool) (body : Body) (s : State) : Requested s (report stamp test body s) :=
  (report_onlyReports stamp test body s).requested

theorem append_requested (stamp : Stamp) (test : Bool) (body : Body) (s : State) :
    Requested s (append stamp test body s).2 := (append_onlyReports stamp test body s).requested

theorem requestAction_requested (a : Option OutputId) (s : State) : Requested s (requestAction a s) := by
  cases a with
  | none => exact .refl s
  | some q => exact .request q s

theorem raise_requested (c : SystemCause) (s : State) : Requested s (raise c s) := .stand rfl

theorem setLine_requested (s : State) (l : LineId) (x : LineState) : Requested s (s.setLine l x) := .stand rfl

theorem setGroup_requested (s : State) (g : GroupId) (x : FirstOutGroup) : Requested s (s.setGroup g x) := .stand rfl

theorem setRule_requested (s : State) (r : RuleId) (x : CorrRule) : Requested s (s.setRule r x) := .stand rfl

theorem setFreeIndex_requested (s : State) (n : Nat) : Requested s { s with freeIndex := n } := .stand rfl

theorem setTime_requested (s : State) (t : TimeBase) : Requested s { s with time := t } := .stand rfl

/-! ## Groups -/

theorem resolveGroup_requested (g : GroupId) (d : Bool) (s : State) : Requested s (resolveGroup g d s) :=
  .stand (by rw [(resolveGroup_resolved g d s).outputs])

theorem groupDeparture_requested (g : GroupId) (c : Candidate) (s : State) : Requested s (groupDeparture g c s) := by
  unfold groupDeparture
  dsimp only
  split
  · exact .ite ((setGroup_requested s g _).trans (resolveGroup_requested g false _)) (setGroup_requested s g _)
  · exact .ite (.refl s) (setGroup_requested s g _)
  · exact setGroup_requested s g _

theorem handGroup_requested (g : Option GroupId) (c : Candidate) (s : State) : Requested s (handGroup g c s) := by
  cases g with
  | none => exact .refl s
  | some g => exact groupDeparture_requested g c s

theorem clearGroup_requested (g : GroupId) (s : State) : Requested s (clearGroup g s) :=
  (report_requested s.now false _ s).trans (setGroup_requested _ g _)

/-! ## The engine -/

theorem lapse_requested (reason : LapseReason) (r : RuleId) (k : Nat) (s : State) : Requested s (lapse reason r k s) :=
  .stand (by rw [(lapse_lapsed reason r k s).outputs])

theorem lapseOldest_requested (reason : LapseReason) (r : RuleId) (n : Nat) (s : State) :
    Requested s (lapseOldest reason r n s) := by
  induction n generalizing s with
  | zero => exact .refl s
  | succ n ih => exact (lapse_requested reason r 0 s).trans (ih _)

theorem lapseAll_requested (items : List (RuleId × Nat)) (s : State) : Requested s (lapseAll items s) := by
  induction items generalizing s with
  | nil => exact .refl s
  | cons item rest ih => exact (lapse_requested .window item.1 item.2 s).trans (ih _)

/-- A match asks for the rule's action (R115). -/
theorem complete_requested (r : RuleId) (k : Nat) (c : CorrContext) (stamp : Stamp) (s : State) :
    Requested s (complete r k c stamp s) :=
  (requestAction_requested (s.rules.get r).action s).trans (.stand (by rw [complete_outputs]))

theorem startContext_requested (r : RuleId) (ev : CorrEvent) (p : Fin 4) (s : State) :
    Requested s (startContext r ev p s) := by
  have missed : Requested s (missStart r s) := setRule_requested s r _
  exact .ite missed (.ite (.ite missed (.stand rfl)) (setRule_requested s r _))

theorem visitRule_requested (ev : CorrEvent) (r : RuleId) (s : State) : Requested s (visitRule ev r s).1 := by
  obtain is | ⟨i, c, p, -, -, is⟩ | ⟨p, -, is⟩ := visitRule_cases ev r s
  · rw [is]; exact .refl s
  · have taken : Requested s (s.setContext r i (c.taken p ev)) := setRule_requested s r _
    rw [is]
    exact .ite (taken.trans (complete_requested r i _ _ _)) taken
  · rw [is]; exact startContext_requested r ev p s

theorem visitRules_requested (ev : CorrEvent) (rs : List RuleId) (s : State) : Requested s (visitRules ev rs s).1 := by
  induction rs generalizing s with
  | nil => exact .refl s
  | cons r rs ih => exact (visitRule_requested ev r s).trans (ih _)

/-- A line event at the engine (R111). -/
theorem correlate_requested (ev : CorrEvent) (s : State) : Requested s (correlate ev s) := by
  unfold correlate
  dsimp only
  exact ((visitRules_requested ev (List.finRange 16) s).trans (setFreeIndex_requested _ _)).trans (lapseAll_requested _ _)

theorem ruleEnable_requested (r : RuleId) (s : State) : Requested s (ruleEnable r s).2 := by
  unfold ruleEnable
  split
  · exact .refl s
  · exact setRule_requested s r _

theorem disableRule_requested (r : RuleId) (s : State) : Requested s (disableRule r s) :=
  (lapseOldest_requested .disabled r _ s).trans (setRule_requested _ r _)

/-! ## The Alarm List -/

theorem setEntries_requested (s : State) (es : List AlarmEntry) : Requested s (s.setEntries es) := .stand rfl

theorem ackRecord_requested (l : LineId) (r : AckResult) (test : Bool) (tag : Word) (side : Half) (s : State) :
    Requested s (ackRecord l r test tag side s) := .ite (report_requested _ _ _ s) (.refl s)

theorem ackEntry_requested (tag : Word) (side : Half) (l : LineId) (s : State) : Requested s (ackEntry tag side l s).2 := by
  unfold ackEntry
  split
  · exact .refl s
  · split
    · exact (setEntries_requested s _).trans (ackRecord_requested _ _ _ _ _ _)
    · exact (setEntries_requested s _).trans (ackRecord_requested _ _ _ _ _ _)
    · exact .refl s

theorem ackEntries_requested (tag : Word) (side : Half) (ls : List LineId) (r : Bool × State) :
    Requested r.2 (ackEntries tag side ls r).2 := by
  induction ls generalizing r with
  | nil => exact .refl _
  | cons l ls ih =>
    exact (ackEntry_requested tag side l r.2).trans (ih (r.1 || (ackEntry tag side l r.2).1, (ackEntry tag side l r.2).2))

theorem acknowledged_requested (r : Bool × State) : Requested r.2 (acknowledged r).2 := by
  unfold acknowledged
  split <;> exact .stand rfl

theorem silenceEntries_requested (side : Half) (s : State) : Requested s (silenceEntries side s) :=
  (setEntries_handed_onlyAlarms s _).requested.trans (report_requested s.now false _ _)

/-- An escalation asks for the action of the priority left (R144). -/
theorem escalate_requested (e : AlarmEntry) (s : State) : Requested s (escalate e s) :=
  (requestAction_requested (s.alarms.escalation.get e.priority).action s).trans (.stand (escalate_outputs e s))

/-! ## The classifier (Table 17) -/

theorem recordChange_requested (wanted : Bool) (l : LineId) (d : Direction) (stamp : Stamp) (test : Bool) (s : State) :
    Requested s (recordChange wanted l d stamp test s).2 := by
  cases wanted with
  | true => exact append_requested _ _ _ s
  | false => exact .refl s

theorem routeDepart_requested (l : LineId) (stamp : Stamp) (test : Bool) (e : LineEntry) (num : Option Word) (s : State) :
    Requested s (routeDepart l stamp test e num s) := by
  unfold routeDepart
  dsimp only
  refine Requested.trans (handGroup_requested e.group ⟨l, stamp, test, num⟩ s) (Requested.trans ?_ (requestAction_requested _ _))
  exact .ite (correlate_requested _ _) ((correlate_requested _ _).trans (alarmDeparture_apart _ _).requested)

theorem routeReturn_requested (l : LineId) (stamp : Stamp) (test : Bool) (e : LineEntry) (num : Option Word) (s : State) :
    Requested s (routeReturn l stamp test e num s) := by
  unfold routeReturn
  dsimp only
  refine Requested.trans ?_ (requestAction_requested _ _)
  exact .ite (correlate_requested _ _) ((correlate_requested _ _).trans (alarmReturn_onlyAlarms _ _).requested)

theorem classifyDepart_requested (l : LineId) (stamp : Stamp) (test : Bool) (s : State) :
    Requested s (classifyDepart l stamp test s) := by
  rw [classifyDepart_eq]
  exact (recordChange_requested _ l .depart stamp test s).trans (routeDepart_requested l stamp test _ _ _)

theorem classifyReturn_requested (l : LineId) (stamp : Stamp) (test : Bool) (s : State) :
    Requested s (classifyReturn l stamp test s) := by
  rw [classifyReturn_eq]
  exact (recordChange_requested _ l .giveBack stamp test s).trans (routeReturn_requested l stamp test _ _ _)

theorem classifyInitial_requested (l : LineId) (v : Level) (stamp : Stamp) (test : Bool) (s : State) :
    Requested s (classifyInitial l v stamp test s) :=
  have recorded := append_requested stamp test (.armed l v) s
  .ite recorded (recorded.trans (alarmDeparture_apart _ _).requested)

theorem classifyChatterOn_requested (l : LineId) (v : Level) (stamp : Stamp) (test : Bool) (s : State) :
    Requested s (classifyChatterOn l v stamp test s) :=
  have recorded := (append_requested stamp test (.chatterOn l v) s).trans (raise_requested .chatter _)
  .ite recorded (recorded.trans (alarmChatterOn_onlyAlarms _ _).requested)

theorem classifyChatterOff_requested (l : LineId) (v : Level) (n : Word) (stamp : Stamp) (test : Bool) (s : State) :
    Requested s (classifyChatterOff l v n stamp test s) :=
  have recorded := append_requested stamp test (.chatterOff l v n) s
  .ite recorded (recorded.trans (alarmChatterOff_onlyAlarms _ _ _).requested)

theorem classifyDisarmed_requested (l : LineId) (stamp : Stamp) (test : Bool) (s : State) :
    Requested s (classifyDisarmed l stamp test s) :=
  have recorded := report_requested stamp test (.disarmed l) s
  .ite recorded (recorded.trans (alarmWithdraw_onlyAlarms _ _).requested)

/-! ## The conditioner -/

theorem countTransition_requested (l : LineId) (edge : Stamp) (s : State) : Requested s (countTransition l edge s) := by
  refine .ite (.refl s) (.ite ?_ (setLine_requested s l _))
  rw [enterChatter_eq]
  exact (setLine_requested s l _).trans (classifyChatterOn_requested _ _ _ _ _)

theorem qualifySettling_requested (l : LineId) (s : State) : Requested s (qualifySettling l s) :=
  (setLine_requested s l _).trans (classifyInitial_requested _ _ _ _ _)

theorem qualifyDeparture_requested (l : LineId) (s : State) : Requested s (qualifyDeparture l s) :=
  (setLine_requested s l _).trans ((classifyDepart_requested _ _ _ _).trans (countTransition_requested _ _ _))

theorem qualifyReturn_requested (l : LineId) (s : State) : Requested s (qualifyReturn l s) :=
  (setLine_requested s l _).trans ((classifyReturn_requested _ _ _ _).trans (countTransition_requested _ _ _))

theorem releaseLine_requested (l : LineId) (s : State) : Requested s (releaseLine l s) :=
  (setLine_requested s l _).trans (classifyChatterOff_requested _ _ _ _ _ _)

theorem takeChange_requested (l : LineId) (s : State) : Requested s (takeChange l s) := by
  unfold takeChange
  split
  · exact .refl s
  · exact setLine_requested s l _
  · exact .ite ((setLine_requested s l _).trans (qualifyDeparture_requested l _)) (setLine_requested s l _)
  · exact setLine_requested s l _
  · exact .ite ((setLine_requested s l _).trans (qualifyReturn_requested l _)) (setLine_requested s l _)
  · exact setLine_requested s l _
  · exact setLine_requested s l _

theorem observeLevel_requested (l : LineId) (s : State) : Requested s (observeLevel l s) :=
  .ite (.refl s) ((setLine_requested s l _).trans (takeChange_requested l _))

theorem armDisarmed_requested (l : LineId) (s : State) : Requested s (armDisarmed l s) :=
  .ite ((setLine_requested s l _).trans (qualifySettling_requested l _)) (setLine_requested s l _)

theorem disarmArmed_requested (l : LineId) (s : State) : Requested s (disarmArmed l s) :=
  (classifyDisarmed_requested _ _ _ _).trans (setLine_requested _ l _)

theorem settleLines_requested (ls : List LineId) (s : State) : Requested s (settleLines ls s) := by
  induction ls generalizing s with
  | nil => exact .refl s
  | cons l ls ih => exact (qualifySettling_requested l s).trans (ih _)

/-! ## The Time Base -/

/-- The notice of a discontinuity asks for no action (R34). -/
theorem discontinuityNotice_requested (s : State) : Requested s (discontinuityNotice s) := by
  rw [discontinuityNotice_eq]
  exact (setFreeIndex_requested s _).trans (.stand (by rw [(noticeActions_stand _ _).2]))

/-- A change of the Time Base, its record and the quality's change: what comes before the notice of a step and of SET TIME. -/
theorem timeRecorded_requested (t : TimeBase) (stamp : Stamp) (body : Body) (q : Quality) (s : State) :
    Requested s (changeQuality q (report stamp false body { s with time := t })) :=
  ((setTime_requested s t).trans (report_requested stamp false body _)).trans (changeQuality_blocksStand q _).requested

theorem alignCounter_requested (beyond : Quality) (s : State) : Requested s (alignCounter beyond s) := by
  refine .ite ((correctCounter_blocksStand _ s).trans (changeQuality_blocksStand _ _)).requested ?_
  rw [stepCounter_eq]
  exact (timeRecorded_requested _ _ _ beyond s).trans (discontinuityNotice_requested _)

theorem takePulse_requested (s : State) : Requested s (takePulse s) := by
  have unheld : Requested s s.unheld := setTime_requested s _
  have aligned : ∀ beyond, Requested s (alignCounter beyond s.unheld) := fun beyond =>
    unheld.trans (alignCounter_requested beyond _)
  unfold takePulse
  refine Requested.trans ?_ (setTime_requested _ _)
  cases s.time.quality with
  | free => exact unheld
  | acquiring => exact .ite (aligned .locked) unheld
  | locked => exact aligned .acquiring
  | holdover => exact aligned .acquiring

theorem setCounter_requested (v : Timestamp) (s : State) : Requested s (setCounter v s) := by
  rw [setCounter_eq]
  exact (timeRecorded_requested _ _ _ _ s).trans (discontinuityNotice_requested _)

end Sys2Proof.Machine

/-! PROOFS. OutputsLegal: every operation keeps every output's pulse state legal (R159, R164, Tables 33 and 34), so every step
does (O51). -/
namespace Sys2Proof.Machine

/-- Every output of a table is legal. A structure, so that no elaboration runs the model to see an output's state. -/
structure OutputTableLegal (outputs : Vector OutputLine 8) : Prop where
  each : ∀ q, (outputs.get q).legal

/-- Every output is legal (Table 34). -/
def State.outputsLegal (s : State) : Prop := OutputTableLegal s.outputs.lines

theorem State.outputsLegal_iff (s : State) : s.outputsLegal ↔ ∀ q, (s.outputs.lines.get q).legal :=
  ⟨OutputTableLegal.each, OutputTableLegal.mk⟩

section
variable {s : State} (h : s.outputsLegal)
include h

/-- What leaves the outputs' lines alone keeps them legal. -/
theorem State.outputsLegal.of_lines {t : State} (same : t.outputs.lines = s.outputs.lines) : t.outputsLegal := by
  unfold State.outputsLegal
  rw [same]
  exact h

theorem setOutput_outputsLegal {q : OutputId} {x : OutputLine} (own : x.legal) : (s.setOutput q x).outputsLegal := by
  refine (State.outputsLegal_iff _).mpr fun k => ?_
  rw [setOutput_outputs]
  by_cases same : k = q
  · rw [same, get_put_same]; exact own
  · rw [get_put_other _ _ _ _ same]; exact h.each k

/-- A request of any block, whatever the output's mode (R158, R159). -/
theorem requestPulse_outputsLegal (q : OutputId) : (requestPulse q s).outputsLegal := by
  refine setOutput_outputsLegal h ?_
  split
  · next pulse => exact OutputLine.request_legal (h.each q) pulse _
  · exact OutputLine.drop_legal (h.each q)

end

/-- What reaches the outputs by requests alone keeps them legal. -/
theorem Requested.outputsLegal {s t : State} (a : Requested s t) (h : s.outputsLegal) : t.outputsLegal := by
  induction a with
  | stand lines => exact h.of_lines lines
  | request q s => exact requestPulse_outputsLegal h q
  | trans _ _ first second => exact second (first h)

/-! ## The tables and the resets -/

/-- An accepted write of a table leaves what its word gives (R198). -/
theorem acceptOr_outputsLegal {α : Type} {t : State} {o : Option α} {f : α → State} (taken : acceptOr o f = .accepted t)
    (kept : ∀ x, o = some x → (f x).outputsLegal) : t.outputsLegal := by
  cases o with
  | none => cases taken
  | some x => cases taken; exact kept x rfl

/-- An OUTPUT entry is written as `OutputLine.setWord` gives (R153); the other tables hold no output (Table 42). -/
theorem writeTable_outputsLegal {s t : State} {p : PortAddress} {w : Word} (h : s.outputsLegal)
    (taken : writeTable s p w = .accepted t) : t.outputsLegal := by
  unfold writeTable at taken
  split at taken
  · unfold writeLineEntry at taken
    split at taken
    · cases taken
    · split at taken
      · cases taken
      · exact acceptOr_outputsLegal taken fun _ _ => h.of_lines rfl
  · unfold writeProfile at taken
    split at taken
    · cases taken
    · exact acceptOr_outputsLegal taken fun _ _ => h.of_lines rfl
  · unfold writeGroup at taken
    split at taken
    · cases taken
    · split at taken
      · cases taken
      · cases taken; exact h.of_lines rfl
  · unfold writeRule at taken
    split at taken
    · cases taken
    · split at taken
      · cases taken
      · exact acceptOr_outputsLegal taken fun _ _ => h.of_lines rfl
  · unfold writeOutput at taken
    split at taken
    · cases taken
    · exact acceptOr_outputsLegal taken fun _ is => setOutput_outputsLegal h (OutputLine.setWord_legal (h.each _) is)
  · exact acceptOr_outputsLegal taken fun _ _ => h.of_lines rfl
  · cases taken

theorem writeTableData_outputsLegal {s : State} (h : s.outputsLegal) (w : Word) : (writeTableData w s).outputsLegal := by
  unfold writeTableData
  cases judged : writeTable s s.ports.control w with
  | accepted t => exact (writeTable_outputsLegal h judged).of_lines rfl
  | refused reason => exact h.of_lines rfl
  | ignored => exact h.of_lines rfl

/-- RESTART discards the pulses and the requests held (R169), and the lines that leave SETTLING ask for none. -/
theorem restartPart_outputsLegal {s : State} (h : s.outputsLegal) : (restartPart s).outputsLegal := by
  have blocks : (restartBlocks s).outputsLegal := by
    refine (State.outputsLegal_iff _).mpr fun q => ?_
    rw [restartBlocks_eq, get_map]
    exact OutputLine.restarted_legal (h.each q)
  rw [restartPart_eq]
  exact ((restartRecorded_reports s).requested.trans (settleLines_requested _ _)).outputsLegal blocks

/-- The outputs at their hardware reset values (R168). -/
theorem holdInReset_outputsLegal (s : State) : (holdInReset s).outputsLegal := by
  refine (State.outputsLegal_iff _).mpr fun q => ?_
  show ((Vector.replicate 8 OutputLine.reset).get q).legal
  rw [get_replicate]
  exact OutputLine.reset_legal

/-! ## Every row -/

/-- Every operation that a row asks of a block keeps every output legal. -/
theorem rowsKeep_outputsLegal : RowsKeep State.outputsLegal where
  pending _ h := h
  freeIndex _ h := h
  lastRead _ h := h
  setSlot _ _ h := h
  tick _ h := h.of_lines rfl
  sampledInReset l _ _ h := (setLine_requested _ l _).outputsLegal h
  sampled l _ _ h := ((setLine_requested _ l _).trans (observeLevel_requested l _)).outputsLegal h
  qualifySettling l _ _ h := (qualifySettling_requested l _).outputsLegal h
  qualifyDeparture l _ _ h := (qualifyDeparture_requested l _).outputsLegal h
  qualifyReturn l _ _ h := (qualifyReturn_requested l _).outputsLegal h
  closeWindow l _ h := (setLine_requested _ l _).outputsLegal h
  releaseLine l _ _ h := (releaseLine_requested l _).outputsLegal h
  takePulse _ _ h := (takePulse_requested _).outputsLegal h
  superviseEnds _ _ h := (superviseEnds_blocksStand _).requested.outputsLegal h
  holdAbsorbed _ h := h
  resolveGroup g _ _ h := (resolveGroup_requested g false _).outputsLegal h
  lapse r k _ h := (lapse_requested .window r k _).outputsLegal h
  escalate _ e _ _ _ h := (escalate_requested e _).outputsLegal h
  lengthExpires q _ pulsing h := setOutput_outputsLegal h (OutputLine.lengthExpires_legal (h.each q) pulsing _)
  gapExpires q _ inGap h := setOutput_outputsLegal h (OutputLine.gapExpires_legal (h.each q) inGap _)
  holdoffExpires _ _ _ h := h
  flashPhase _ h := h.of_lines rfl
  readChannelData half _ h := (readChannelData_blocksStand half _).requested.outputsLegal h
  statusTaken _ _ h := h
  latchTime _ _ h := h
  stepPort _ _ h := h
  clearTableStatus _ h := h
  writeTableData w _ h := writeTableData_outputsLegal h w
  writePortAddress half w _ h := (writePortAddress_blocksStand half w _).requested.outputsLegal h
  writeStoreControl _ _ h := h
  writeTimeControl v _ h := (writeTimeControl_blocksStand v _).requested.outputsLegal h
  writeTolerance v _ h := (writeTolerance_blocksStand v _).requested.outputsLegal h
  writeStepLimit v _ h := (writeStepLimit_blocksStand v _).requested.outputsLegal h
  writeSetHigh _ _ h := h
  writeAckRecording _ _ h := h
  writeOutputData _ _ h := h.of_lines rfl
  writeThreshold half v _ h := (writeThreshold_blocksStand half v _).requested.outputsLegal h
  writeHoldoff _ _ _ h := h
  writeChannelCauses half v _ h := (writeChannelCauses_blocksStand half v _).requested.outputsLegal h
  writeSystemCauses _ _ _ h := h
  writeSystemRoutes _ _ h := h
  armLine l _ _ h := (armDisarmed_requested l _).outputsLegal h
  disarmLine l _ _ h := (disarmArmed_requested l _).outputsLegal h
  injectLevel l _ _ _ h := ((setLine_requested _ l _).trans (observeLevel_requested l _)).outputsLegal h
  clearGroup g _ _ h := (clearGroup_requested g _).outputsLegal h
  ruleEnable r _ h := (ruleEnable_requested r _).outputsLegal h
  disableRule r _ h := (disableRule_requested r _).outputsLegal h
  setCounter v _ h := (setCounter_requested v _).outputsLegal h
  takeSnapshot _ h := (report_requested _ _ _ _).outputsLegal h
  clearStore _ h := (clearStore_blocksStand _).requested.outputsLegal h
  requestPulse q _ h := requestPulse_outputsLegal h q
  ackLine tag half l _ h := ((ackEntry_requested tag half l _).trans (acknowledged_requested _)).outputsLegal h
  ackAll tag half _ h := ((ackEntries_requested tag half _ (false, _)).trans (acknowledged_requested _)).outputsLegal h
  silenceEntries half _ h := (silenceEntries_requested half _).outputsLegal h
  mark _ _ _ h := (report_requested _ _ _ _).outputsLegal h
  restartPart _ h := restartPart_outputsLegal h
  enableFromOldest half _ h := (enableFromOldest_blocksStand half _).requested.outputsLegal h
  enableFromNext half _ h := (enableFromNext_blocksStand half _).requested.outputsLegal h
  disableChannel half _ h := (disableChannel_blocksStand half _).requested.outputsLegal h
  skipRecord half _ h := (skipRecord_blocksStand half _).requested.outputsLegal h
  rereadRecord half _ h := (rereadRecord_blocksStand half _).requested.outputsLegal h
  holdInReset _ := holdInReset_outputsLegal _
  releaseReset {s} _ := State.outputsLegal.of_lines (s := { Machine.holdInReset s with inReset := false })
    (holdInReset_outputsLegal s) (by rw [releaseReset, (report_onlyReports _ _ _ _).outputs])

/-- Settles O51: every operation keeps every output legal, so every step does. -/
theorem outputsLegalAfterEveryStep : Obligations.OutputsLegalAfterEveryStep :=
  fun s t legal ran => (t.outputsLegal_iff).mp (rowsKeep_outputsLegal.step (s.outputsLegal_iff.mpr legal) ran)

end Sys2Proof.Machine

/-! PROOFS. OutputRows: the PULSE command and the requests of the other blocks (O48), the pulse timers and the flash phase (O49), and
an output's level and pin (O50). -/
namespace Sys2Proof.Machine

section
variable {q : OutputId} {s : State} {o : OutputLine}

/-! ## Requests (R158, R159, R165, R166) -/

/-- An output is full where it would drop a request under QUEUE (R159). -/
theorem OutputLine.full_iff (o : OutputLine) : o.full = true ↔ o.retrigger = .queue ∧ o.phase ≠ .idle ∧ 15 ≤ o.queued := by
  simp [OutputLine.full, and_assoc]

theorem requestPulse_pulse (is : o = s.outputs.lines.get q) (pulse : o.mode = .pulse) :
    requestPulse q s = s.setOutput q (o.request s.time.elapsed) := by
  subst is
  exact congrArg (s.setOutput q) (if_pos pulse)

theorem requestPulse_other (is : o = s.outputs.lines.get q) (other : o.mode ≠ .pulse) :
    requestPulse q s = s.setOutput q o.drop := by
  subst is
  exact congrArg (s.setOutput q) (if_neg other)

theorem requestPulse_starts (is : o = s.outputs.lines.get q) (pulse : o.mode = .pulse)
    (starts : o.phase = .idle ∨ o.retrigger = .restart) :
    requestPulse q s = s.setOutput q (o.startPulse s.time.elapsed) := by
  rw [requestPulse_pulse is pulse, OutputLine.request_starts starts]

theorem requestPulse_queues (is : o = s.outputs.lines.get q) (pulse : o.mode = .pulse) (busy : o.phase ≠ .idle)
    (queue : o.retrigger = .queue) : requestPulse q s = s.setOutput q
      (if o.queued < 15 then { o with queued := o.queued + 1 } else o.drop) := by
  rw [requestPulse_pulse is pulse, OutputLine.request_queues busy queue]
  by_cases room : o.queued < 15
  · rw [if_pos room, if_neg (Nat.not_le.mpr room)]
  · rw [if_neg room, if_pos (Nat.not_lt.mp room)]

/-- Outside PULSE mode the command is turned away (R165). -/
theorem pulseOutput_other (is : o = s.outputs.lines.get q) (other : o.mode ≠ .pulse) :
    pulseOutput q s = (.wrongState, s) := by
  subst is
  exact if_pos other

/-- In PULSE mode it is a request, without effect where the output is full (R165, R166). -/
theorem pulseOutput_pulse (is : o = s.outputs.lines.get q) (pulse : o.mode = .pulse) :
    pulseOutput q s = (if o.full then .noEffect else .done, requestPulse q s) := by
  subst is
  exact if_neg (not_not.mpr pulse)

/-- A request that is not dropped completes with DONE (R165). -/
theorem pulseOutput_done (is : o = s.outputs.lines.get q) (pulse : o.mode = .pulse)
    (room : o.retrigger = .queue → o.phase ≠ .idle → o.queued < 15) : pulseOutput q s = (.done, requestPulse q s) := by
  rw [pulseOutput_pulse is pulse, if_neg]
  rw [OutputLine.full_iff]
  rintro ⟨queue, busy, held⟩
  exact absurd (room queue busy) (Nat.not_lt.mpr held)

theorem exec_pulse {t : State} {c : ResultCode} {result : Word} (running : s.inReset = false)
    (arg : s.slots.control.arg0.toNat = q.val) (acts : pulseOutput q s = (c, t)) (word : resultWord c 0x14 = result) :
    exec (.pulse .control) s = .next (t.setSlot .control (s.slots.control.answered 0x14 result)) := by
  refine command_next (h := .control) running ?_ word
  show withOperand (operand 8 s.slots.control.arg0) s (fun q => pulseOutput q s) = (c, t)
  rw [operand_inRange q arg, withOperand_some, acts]

/-! ## The pulse timers (R160, R161) -/

theorem OutputLine.lengthExpires_gap (more : o.retrigger = .queue ∨ o.queued ≠ 0) (elapsed : Nat) :
    o.lengthExpires elapsed = o.startGap elapsed := by
  unfold OutputLine.lengthExpires
  split
  · rfl
  · next restart =>
    refine if_neg (more.resolve_left ?_)
    rw [restart]
    decide

theorem OutputLine.rest_of_empty (empty : o.queued = 0) : o.rest = { o with phase := .idle, timer := none } := by
  rw [OutputLine.rest, ← empty]

theorem OutputLine.lengthExpires_rest (restart : o.retrigger = .restart) (empty : o.queued = 0) (elapsed : Nat) :
    o.lengthExpires elapsed = { o with phase := .idle, timer := none } := by
  rw [← OutputLine.rest_of_empty empty]
  unfold OutputLine.lengthExpires
  rw [restart]
  exact if_pos empty

theorem OutputLine.gapExpires_next (more : o.queued ≠ 0) (elapsed : Nat) :
    o.gapExpires elapsed = { o with queued := o.queued - 1 }.startPulse elapsed := if_neg more

theorem OutputLine.gapExpires_rest (empty : o.queued = 0) (elapsed : Nat) :
    o.gapExpires elapsed = { o with phase := .idle, timer := none } := (if_pos empty).trans (OutputLine.rest_of_empty empty)

section
variable (running : s.inReset = false) (clock : s.clockRunning = true) (is : o = s.outputs.lines.get q)
include running clock is

theorem exec_lengthTimerExpiry (pulsing : o.phase = .pulsing) (timer : o.timer.isSome = true) :
    exec (.lengthTimerExpiry q) s = .next (s.setOutput q (o.lengthExpires s.time.elapsed)) := by
  subst is
  exact congrArg Host.Outcome.next ((timed_running _ running clock).trans (if_pos ⟨pulsing, timer⟩))

theorem exec_gapTimerExpiry (inGap : o.phase = .gap) (timer : o.timer.isSome = true) :
    exec (.gapTimerExpiry q) s = .next (s.setOutput q (o.gapExpires s.time.elapsed)) := by
  subst is
  exact congrArg Host.Outcome.next ((timed_running _ running clock).trans (if_pos ⟨inGap, timer⟩))

end

/-- The next boundary of the flash phase (R155). -/
theorem nextFlashBoundary_spec {flash : Nat} (within : flash < 1000000) :
    nextFlashBoundary flash % 125000 = 0 ∧ nextFlashBoundary flash < 1000000 ∧
    (flash < 875000 → flash < nextFlashBoundary flash ∧ nextFlashBoundary flash ≤ flash + 125000) ∧
    (875000 ≤ flash → nextFlashBoundary flash = 0) := by
  unfold nextFlashBoundary
  refine ⟨?_, ?_, fun early => ?_, fun late => ?_⟩ <;> omega

/-! ## Levels and pins (R152, R155 to R157, R202) -/

/-- The computed level of an output, by its mode (R152). -/
theorem computed_eq (is : o = s.outputs.lines.get q) : s.outputs.computed q = match o.mode with
    | .direct => s.outputs.data.getLsbD q.val
    | .lamp => s.outputs.lampLevel (s.outputs.handed.get o.threshold).lamp
    | .horn => (s.outputs.handed.get o.threshold).horn
    | .pulse => decide (o.phase = .pulsing) := by
  subst is
  rfl

/-- The level under a polarity is HIGH where the computed level is the polarity's (R152). -/
theorem Polarity.level_eq (p : Polarity) (active : Bool) :
    p.level active = if active = decide (p = .activeHigh) then .high else .low := by
  cases p <;> cases active <;> rfl

theorem outputPin_eq (is : o = s.outputs.lines.get q) :
    s.outputPin q = o.drive.pin (if s.outputs.computed q = decide (o.polarity = .activeHigh) then .high else .low) := by
  subst is
  rw [State.outputPin, Polarity.level_eq]

theorem Drive.pin_highZ (v : Level) : Drive.highZ.pin v = .released := by cases v <;> rfl

end

/-- Settles O48: `OutputLine.request` by the table of R159, and the results of R165. -/
theorem pulseCommandRequests : Obligations.PulseCommandRequests := by
  intro q s o started running arg is startedIs
  change started = o.startPulse s.time.elapsed at startedIs
  rw [startedIs]
  refine ⟨fun pulse starts => ?_, fun pulse busy queue room => ?_, fun pulse busy queue held => ?_, fun other => ?_,
    requestPulse_other is, requestPulse_starts is, requestPulse_queues is⟩
  · rw [← requestPulse_starts is pulse starts]
    refine exec_pulse running arg (pulseOutput_done is pulse fun queue busy => absurd starts ?_) (by decide)
    rw [queue]
    exact not_or.mpr ⟨busy, by decide⟩
  · have requested := requestPulse_queues is pulse busy queue
    rw [if_pos room] at requested
    rw [← requested]
    exact exec_pulse running arg (pulseOutput_done is pulse fun _ _ => room) (by decide)
  · have requested := requestPulse_queues is pulse busy queue
    rw [if_neg (Nat.not_lt.mpr held)] at requested
    have full := o.full_iff.mpr ⟨queue, busy, held⟩
    refine exec_pulse running arg ?_ (c := .noEffect) (by decide)
    rw [pulseOutput_pulse is pulse, if_pos full, requested]
    rfl
  · exact exec_pulse running arg (pulseOutput_other is other) (by decide)

/-- Settles O49. -/
theorem pulseTimersAndFlashPhase : Obligations.PulseTimersAndFlashPhase := by
  intro q s o running clock is
  refine ⟨fun pulsing timer more => ?_, fun pulsing timer restart empty => ?_, fun inGap timer more => ?_,
    fun inGap timer empty => ?_, fun within => ?_⟩
  · rw [exec_lengthTimerExpiry running clock is pulsing timer, OutputLine.lengthExpires_gap more]
    rfl
  · rw [exec_lengthTimerExpiry running clock is pulsing timer, OutputLine.lengthExpires_rest restart empty]
  · rw [exec_gapTimerExpiry running clock is inGap timer, OutputLine.gapExpires_next more]
    rfl
  · rw [exec_gapTimerExpiry running clock is inGap timer, OutputLine.gapExpires_rest empty]
  · obtain ⟨boundary, below, early, late⟩ := nextFlashBoundary_spec within
    exact ⟨_, boundary, below, early, late, congrArg Host.Outcome.next (timed_running _ running clock)⟩

/-- Settles O50. -/
theorem outputPinFollowsModeAndDrive : Obligations.OutputPinFollowsModeAndDrive := by
  intro s q o is
  have level := computed_eq is
  have pin := outputPin_eq is
  refine ⟨fun direct => ?_, fun lamp => ?_, fun horn => ?_, fun pulse => ?_, fun drive => ?_, fun drive => ?_,
    fun drive => ?_, fun h => ⟨fun asserted => if_pos asserted, fun quiet => if_neg (Bool.eq_false_iff.mp quiet)⟩⟩
  · rw [level, direct]
  · rw [level, lamp]
    cases (s.outputs.handed.get o.threshold).lamp <;> rfl
  · rw [level, horn]
  · rw [level, pulse]
  · rw [pin, drive, Drive.pin_highZ]
  · rw [pin, drive]
    split <;> rfl
  · rw [pin, drive]
    split <;> rfl

end Sys2Proof.Machine

/-! PROOFS. WrittenWords: which configuration words are accepted, and that an accepted word reads back as written (R198, Tables 43
and 44; O56). -/
namespace Sys2Proof

theorem Level.code_ofBit (b : Bool) : (Level.ofBit b).code = b.toNat := by cases b <;> rfl

end Sys2Proof

namespace Sys2Proof.Machine

/-! ## Codes written and read -/

theorem Direction.code_ofBit (b : Bool) : (Direction.ofBit b).code = b.toNat := by cases b <;> rfl

theorem Polarity.code_ofBit (b : Bool) : (Polarity.ofBit b).code = b.toNat := by cases b <;> rfl

theorem Retrigger.code_ofBit (b : Bool) : (Retrigger.ofBit b).code = b.toNat := by cases b <;> rfl

theorem bit_toNat (w : Word) (i : Nat) : (bit w i).toNat = w.toNat / 2 ^ i % 2 := by
  have two : w.toNat / 2 ^ i % 2 < 2 := Nat.mod_lt _ (by decide)
  unfold bit field
  generalize w.toNat / 2 ^ i % 2 = n at two
  interval_cases n <;> rfl

theorem OutputMode.code_ofCode {n : Nat} (small : n < 4) : (OutputMode.ofCode n).code = n := by
  interval_cases n <;> rfl

theorem AckMode.code_of_ofCode {n : Nat} {m : AckMode} (named : AckMode.ofCode n = some m) : m.code = n := by
  match n with
  | 0 => cases named; rfl
  | 1 => cases named; rfl
  | 2 => cases named; rfl
  | _ + 3 => cases named

theorem Drive.code_of_ofCode {n : Nat} {d : Drive} (named : Drive.ofCode n = some d) : d.code = n := by
  match n with
  | 0 => cases named; rfl
  | 1 => cases named; rfl
  | 2 => cases named; rfl
  | _ + 3 => cases named

theorem AckMode.ofCode_eq_none {n : Nat} (small : n < 4) : AckMode.ofCode n = none ↔ n = 3 := by
  interval_cases n <;> decide

theorem Drive.ofCode_eq_none {n : Nat} (small : n < 4) : Drive.ofCode n = none ↔ n = 3 := by
  interval_cases n <;> decide

theorem optionCode_of_optionOfCode {n : Nat} {o : Option (Fin 8)} (named : optionOfCode n = some o) : optionCode o = n := by
  unfold optionOfCode at named
  split at named
  · cases named; rfl
  · split at named
    · next is => cases named; exact is.symm
    · cases named

theorem optionOfCode_eq_none (n : Nat) : optionOfCode n = none ↔ 8 ≤ n ∧ n ≠ 15 := by
  unfold optionOfCode
  split
  · simp; omega
  · split
    · simp; omega
    · simp; omega

/-! ## LINE entries (Table 43) -/

section
variable {e x : LineEntry} {w : Word}

theorem LineEntry.setWord0_accepted (taken : e.setWord0 w = some x) : ∃ m, m.code = w.toNat / 16 % 4 ∧ x =
    { e with
      normal := Level.ofBit (bit w 0)
      profile := Fin.ofNat 4 (field w 1 2)
      snapshot := bit w 3
      ackMode := m
      recordDepartures := bit w 6
      recordReturns := bit w 7
      cls := BitVec.ofNat 4 (field w 8 4)
      priority := Fin.ofNat 4 (field w 12 2) } := by
  obtain ⟨m, named, is⟩ := Option.map_eq_some_iff.mp taken
  exact ⟨m, AckMode.code_of_ofCode named, is.symm⟩

theorem LineEntry.setWord0_reads (taken : e.setWord0 w = some x) : x.word0.toNat = w.toNat % 2 ^ 14 := by
  obtain ⟨m, ack, rfl⟩ := LineEntry.setWord0_accepted taken
  unfold LineEntry.word0
  simp only [Level.code_ofBit, bit_toNat, ack, field, Fin.val_ofNat, BitVec.toNat_ofNat, Nat.reducePow]
  rw [toWord_toNat] <;> omega

theorem LineEntry.setWord0_word1 (taken : e.setWord0 w = some x) : x.word1 = e.word1 := by
  obtain ⟨m, -, rfl⟩ := LineEntry.setWord0_accepted taken
  rfl

theorem LineEntry.setWord0_eq_none (e : LineEntry) (w : Word) : e.setWord0 w = none ↔ w.toNat / 16 % 4 = 3 :=
  Option.map_eq_none_iff.trans (AckMode.ofCode_eq_none (field_lt w 4 2))

theorem LineEntry.setWord1_accepted (taken : e.setWord1 w = some x) : ∃ g d r, optionCode g = field w 0 4 ∧
    optionCode d = field w 4 4 ∧ optionCode r = field w 8 4 ∧
    x = { e with group := g, departAction := d, returnAction := r } := by
  unfold LineEntry.setWord1 at taken
  split at taken
  · next g d r group departs returns =>
    exact ⟨g, d, r, optionCode_of_optionOfCode group, optionCode_of_optionOfCode departs,
      optionCode_of_optionOfCode returns, (Option.some.inj taken).symm⟩
  · cases taken

theorem LineEntry.setWord1_reads (taken : e.setWord1 w = some x) : x.word1.toNat = w.toNat % 2 ^ 12 := by
  obtain ⟨g, d, r, group, departs, returns, rfl⟩ := LineEntry.setWord1_accepted taken
  unfold LineEntry.word1
  simp only [group, departs, returns, field, Nat.reducePow]
  rw [toWord_toNat] <;> omega

theorem LineEntry.setWord1_word0 (taken : e.setWord1 w = some x) : x.word0 = e.word0 := by
  obtain ⟨g, d, r, -, -, -, rfl⟩ := LineEntry.setWord1_accepted taken
  rfl

theorem LineEntry.setWord1_eq_none (e : LineEntry) (w : Word) : e.setWord1 w = none ↔
    (8 ≤ w.toNat % 16 ∧ w.toNat % 16 ≠ 15) ∨ (8 ≤ w.toNat / 16 % 16 ∧ w.toNat / 16 % 16 ≠ 15) ∨
    (8 ≤ w.toNat / 256 % 16 ∧ w.toNat / 256 % 16 ≠ 15) := by
  unfold LineEntry.setWord1 field
  rw [Nat.pow_zero, Nat.div_one, ← optionOfCode_eq_none, ← optionOfCode_eq_none, ← optionOfCode_eq_none]
  cases optionOfCode (w.toNat % 16) with
  | none => simp
  | some g =>
    cases optionOfCode (w.toNat / 16 % 16) with
    | none => simp
    | some d => cases optionOfCode (w.toNat / 256 % 16) <;> simp

end

/-! ## PROFILE entries (Table 44, R3) -/

section
variable {p x : Profile} {n m : Nat} {w : Word}

theorem Profile.setWord1_accepted (taken : p.setWord 1 w = some x) :
    x = { p with chatterLimit := Fin.ofNat 16 (field w 0 4) } := by
  change (if field w 0 4 = 1 then none else some { p with chatterLimit := Fin.ofNat 16 (field w 0 4) }) = some x at taken
  split at taken
  · cases taken
  · exact (Option.some.inj taken).symm

theorem Profile.setWord_reads (taken : p.setWord n w = some x) :
    (x.word n).toNat = w.toNat % (if n = 1 then 2 ^ 4 else 2 ^ 16) := by
  match n with
  | 0 => cases taken; exact w.toNat_mod_cancel.symm
  | 1 =>
    rw [Profile.word1_toNat, Profile.setWord1_accepted taken]
    simp [field]
  | 2 => obtain ⟨-, rfl⟩ := above_accepted taken; exact w.toNat_mod_cancel.symm
  | 3 => obtain ⟨-, rfl⟩ := above_accepted taken; exact w.toNat_mod_cancel.symm
  | _ + 4 => cases taken

theorem Profile.setWord_others (taken : p.setWord n w = some x) (other : m ≠ n) : x.word m = p.word m := by
  unfold Profile.word
  match n with
  | 0 => cases taken; split <;> simp at other ⊢
  | 1 => rw [Profile.setWord1_accepted taken]; split <;> simp at other ⊢
  | 2 => obtain ⟨-, rfl⟩ := above_accepted taken; split <;> simp at other ⊢
  | 3 => obtain ⟨-, rfl⟩ := above_accepted taken; split <;> simp at other ⊢
  | _ + 4 => cases taken

theorem Profile.setWord_eq_none (p : Profile) (w : Word) (few : n < 4) :
    p.setWord n w = none ↔ (n = 1 ∧ w.toNat % 16 = 1) ∨ ((n = 2 ∨ n = 3) ∧ w = 0) := by
  unfold Profile.setWord
  interval_cases n <;> simp [field]

end

/-! ## ESCALATION entries (Table 44, R142) -/

section
variable {e x : EscalationEntry} {n m : Nat} {w : Word}

theorem EscalationEntry.setWord0_accepted (taken : e.setWord 0 w = some x) : x = { e with time := w } := by
  change (if 4095 < w.toNat then none else some { e with time := w }) = some x at taken
  split at taken
  · cases taken
  · exact (Option.some.inj taken).symm

theorem EscalationEntry.setWord1_accepted (taken : e.setWord 1 w = some x) :
    ∃ a, optionCode a = w.toNat % 16 ∧ x = { e with action := a } := by
  obtain ⟨a, named, is⟩ := Option.map_eq_some_iff.mp taken
  refine ⟨a, (optionCode_of_optionOfCode named).trans ?_, is.symm⟩
  simp [field]

theorem EscalationEntry.setWord_reads (taken : e.setWord n w = some x) :
    (x.word n).toNat = w.toNat % (if n = 1 then 2 ^ 4 else 2 ^ 16) := by
  match n with
  | 0 => rw [EscalationEntry.setWord0_accepted taken]; exact w.toNat_mod_cancel.symm
  | 1 =>
    obtain ⟨a, action, rfl⟩ := EscalationEntry.setWord1_accepted taken
    exact (EscalationEntry.word1_toNat _).trans action
  | _ + 2 => cases taken

theorem EscalationEntry.setWord_others (taken : e.setWord n w = some x) (other : m ≠ n) : x.word m = e.word m := by
  unfold EscalationEntry.word
  match n with
  | 0 => rw [EscalationEntry.setWord0_accepted taken]; split <;> simp at other ⊢
  | 1 =>
    obtain ⟨a, -, rfl⟩ := EscalationEntry.setWord1_accepted taken
    split <;> simp at other ⊢
  | _ + 2 => cases taken

theorem EscalationEntry.setWord_eq_none (e : EscalationEntry) (w : Word) (few : n < 2) : e.setWord n w = none ↔
    (n = 0 ∧ 4095 < w.toNat) ∨ (n = 1 ∧ 8 ≤ w.toNat % 16 ∧ w.toNat % 16 ≠ 15) := by
  unfold EscalationEntry.setWord
  interval_cases n
  · simp
  · simp [field, optionOfCode_eq_none]

end

/-! ## RULE entries (Table 44, R107) -/

section
variable {r x : CorrRule} {n m : Nat} {w : Word}

theorem CorrRule.setWord0_accepted (taken : r.setWord0 w = some x) : ∃ a, optionCode a = field w 8 4 ∧ x =
    { r with
      stepCount := field w 0 3
      ordered := bit w 3
      recordLapses := bit w 4
      limit := field w 5 3
      action := a } := by
  unfold CorrRule.setWord0 at taken
  split at taken
  · cases taken
  · obtain ⟨a, named, is⟩ := Option.map_eq_some_iff.mp taken
    exact ⟨a, optionCode_of_optionOfCode named, is.symm⟩

theorem CorrRule.setWord0_reads (taken : r.setWord0 w = some x) : (x.word 0).toNat = w.toNat % 2 ^ 12 := by
  obtain ⟨a, action, rfl⟩ := CorrRule.setWord0_accepted taken
  unfold CorrRule.word
  simp only [action, bit_toNat, field, Nat.reducePow]
  rw [toWord_toNat] <;> omega

theorem CorrRule.setWord0_eq_none (r : CorrRule) (w : Word) : r.setWord0 w = none ↔
    w.toNat % 8 < 2 ∨ 4 < w.toNat % 8 ∨ w.toNat / 32 % 8 < 1 ∨ 4 < w.toNat / 32 % 8 ∨
    (8 ≤ w.toNat / 256 % 16 ∧ w.toNat / 256 % 16 ≠ 15) := by
  unfold CorrRule.setWord0 field
  rw [Nat.pow_zero, Nat.div_one, ← optionOfCode_eq_none]
  simp only [Nat.reducePow]
  split
  · next out => exact iff_of_true rfl (by tauto)
  · next within =>
    rw [Option.map_eq_none_iff]
    tauto

/-- The steps are words 1 to 4. -/
theorem CorrRule.setStep_reads (r : CorrRule) (p : Fin 4) (w : Word) :
    ((r.setStep p w).word (1 + p.val)).toNat = w.toNat % 2 ^ 6 := by
  rw [CorrRule.word_step, CorrRule.setStep, get_put_same, RuleStep.word]
  simp only [Direction.code_ofBit, bit_toNat, field, Fin.val_ofNat, Nat.reducePow]
  rw [toWord_toNat] <;> omega

theorem CorrRule.setStep_others (r : CorrRule) (p : Fin 4) (w : Word) (other : m ≠ 1 + p.val) :
    (r.setStep p w).word m = r.word m := by
  have stands : ∀ k : Fin 4, m = 1 + k.val → (r.setStep p w).word m = r.word m := fun k is => by
    rw [is, CorrRule.word_step, CorrRule.word_step, CorrRule.setStep, get_put_other]
    rintro rfl
    exact other is
  match m with
  | 0 => rfl
  | 1 => exact stands 0 rfl
  | 2 => exact stands 1 rfl
  | 3 => exact stands 2 rfl
  | 4 => exact stands 3 rfl
  | 5 => rfl
  | 6 => rfl
  | 7 => rfl
  | 8 => rfl
  | 9 => rfl
  | 10 => rfl
  | _ + 11 => rfl

theorem CorrRule.setWord_reads (taken : r.setWord n w = some x) :
    (x.word n).toNat = w.toNat % (if n = 0 then 2 ^ 12 else if n ≤ 4 then 2 ^ 6 else 2 ^ 16) := by
  match n with
  | 0 => exact CorrRule.setWord0_reads taken
  | 1 => cases taken; exact r.setStep_reads 0 w
  | 2 => cases taken; exact r.setStep_reads 1 w
  | 3 => cases taken; exact r.setStep_reads 2 w
  | 4 => cases taken; exact r.setStep_reads 3 w
  | 5 => obtain ⟨-, rfl⟩ := above_accepted taken; exact w.toNat_mod_cancel.symm
  | 6 => cases taken; exact w.toNat_mod_cancel.symm
  | _ + 7 => cases taken

theorem CorrRule.setWord_others (taken : r.setWord n w = some x) (other : m ≠ n) : x.word m = r.word m := by
  match n with
  | 0 =>
    obtain ⟨a, -, rfl⟩ := CorrRule.setWord0_accepted taken
    unfold CorrRule.word
    split <;> simp at other ⊢
  | 1 => cases taken; exact r.setStep_others 0 w other
  | 2 => cases taken; exact r.setStep_others 1 w other
  | 3 => cases taken; exact r.setStep_others 2 w other
  | 4 => cases taken; exact r.setStep_others 3 w other
  | 5 =>
    obtain ⟨-, rfl⟩ := above_accepted taken
    unfold CorrRule.word
    split <;> simp at other ⊢
  | 6 =>
    cases taken
    unfold CorrRule.word
    split <;> simp at other ⊢
  | _ + 7 => cases taken

theorem CorrRule.setWord_eq_none (r : CorrRule) (w : Word) (few : n < 7) :
    r.setWord n w = none ↔ (n = 0 ∧ r.setWord0 w = none) ∨ (n = 5 ∧ w = 0) := by
  unfold CorrRule.setWord
  interval_cases n <;> simp

end

/-! ## OUTPUT entries (Table 44, R153, R164) -/

section
variable {o x : OutputLine} {w : Word}

theorem OutputLine.setMode_mode (o : OutputLine) (m : OutputMode) : (o.setMode m).mode = m := by
  by_cases same : o.mode = m
  · rw [← same, OutputLine.setMode_same]
  · rw [OutputLine.setMode_other same]
    rfl

theorem OutputLine.setWord0_reads (taken : o.setWord0 w = some x) : x.word0.toNat = w.toNat % 2 ^ 9 := by
  obtain ⟨within, d, named, rfl⟩ := OutputLine.setWord0_accepted taken
  have drive := Drive.code_of_ofCode named
  have mode : (OutputMode.ofCode (field w 0 2)).code = field w 0 2 := OutputMode.code_ofCode (field_lt w 0 2)
  unfold OutputLine.word0
  simp only [OutputLine.setMode_mode, mode, drive, Polarity.code_ofBit, Retrigger.code_ofBit, bit_toNat, Fin.val_ofNat]
  unfold field at within ⊢
  simp only [Nat.reducePow] at within ⊢
  rw [toWord_toNat] <;> omega

theorem OutputLine.setWord0_eq_none (o : OutputLine) (w : Word) :
    o.setWord0 w = none ↔ w.toNat / 4 % 4 = 3 ∨ 4 ≤ w.toNat / 32 % 8 := by
  have drive : Drive.ofCode (field w 2 2) = none ↔ w.toNat / 4 % 4 = 3 := Drive.ofCode_eq_none (field_lt w 2 2)
  unfold OutputLine.setWord0
  split
  · next out => exact ⟨fun _ => .inr out, fun _ => rfl⟩
  · next within => exact Option.map_eq_none_iff.trans (drive.trans ⟨.inl, fun h => h.resolve_right within⟩)

theorem OutputLine.setWord_eq_none (o : OutputLine) {n : Nat} (w : Word) (few : n < 3) :
    o.setWord n w = none ↔ (n = 0 ∧ o.setWord0 w = none) ∨ (n ≠ 0 ∧ w = 0) := by
  unfold OutputLine.setWord
  interval_cases n <;> simp

/-- A write of the mode leaves the lengths and the dropped counter, and the pulse state is cancelled where the mode changes (R164). -/
theorem OutputLine.setWord0_pulse (taken : o.setWord0 w = some x) :
    x.length = o.length ∧ x.gap = o.gap ∧ x.dropped = o.dropped ∧
    (x.mode = o.mode → x.phase = o.phase ∧ x.timer = o.timer ∧ x.queued = o.queued) ∧
    (x.mode ≠ o.mode → x.phase = .idle ∧ x.timer = none ∧ x.queued = 0) := by
  obtain ⟨-, d, -, rfl⟩ := OutputLine.setWord0_accepted taken
  by_cases same : o.mode = OutputMode.ofCode (field w 0 2)
  · rw [← same, OutputLine.setMode_same]
    exact ⟨rfl, rfl, rfl, fun _ => ⟨rfl, rfl, rfl⟩, fun changed => absurd rfl changed⟩
  · rw [OutputLine.setMode_other same]
    exact ⟨rfl, rfl, rfl, fun kept => absurd kept.symm same, fun _ => ⟨rfl, rfl, rfl⟩⟩

/-- The configuration words of an output written. -/
theorem setOutput_outputWord (s : State) (q : OutputId) (x : OutputLine) : (s.setOutput q x).outputWord q 0 = x.word0 ∧
    (s.setOutput q x).outputWord q 1 = x.length ∧ (s.setOutput q x).outputWord q 2 = x.gap := by
  have written : (s.setOutput q x).outputs.lines.get q = x := get_put_same _ _ _
  exact ⟨congrArg OutputLine.word0 written, congrArg OutputLine.length written, congrArg OutputLine.gap written⟩

end

/-- Settles O56, table by table. -/
theorem acceptedWordsReadBack : Obligations.AcceptedWordsReadBack :=
  ⟨fun _ _ _ taken => ⟨LineEntry.setWord0_reads taken, LineEntry.setWord0_word1 taken⟩,
    fun _ _ _ taken => ⟨LineEntry.setWord1_reads taken, LineEntry.setWord1_word0 taken⟩,
    fun _ _ _ _ => Profile.setWord_reads, fun _ _ _ _ => CorrRule.setWord_reads, fun _ _ _ => OutputLine.setWord0_reads,
    fun _ _ _ _ => EscalationEntry.setWord_reads, LineEntry.setWord0_eq_none, LineEntry.setWord1_eq_none,
    OutputLine.setWord0_eq_none, CorrRule.setWord0_eq_none, fun p _ w => p.setWord_eq_none w, fun r _ w => r.setWord_eq_none w,
    fun o _ w => o.setWord_eq_none w, fun e _ w => e.setWord_eq_none w, fun _ _ _ _ _ => Profile.setWord_others,
    fun _ _ _ _ _ => CorrRule.setWord_others, fun _ _ _ _ _ => EscalationEntry.setWord_others,
    fun _ _ _ => ⟨fun taken => ⟨taken, OutputLine.setWord0_pulse taken⟩, fun taken => (OutputLine.setWord1_accepted taken).2,
      fun taken => (OutputLine.setWord2_accepted taken).2⟩, setOutput_outputWord⟩

end Sys2Proof.Machine

/-! PROOFS. RequestOutputs: when the request outputs IRQA and IRQB are asserted (O23). -/
namespace Sys2Proof.Machine

theorem Route.reaches_control (r : Route) : r.reaches .control = true ↔ r = .a ∨ r = .both := decide_eq_true_iff

theorem Route.reaches_archive (r : Route) : r.reaches .archive = true ↔ r = .b ∨ r = .both := decide_eq_true_iff

/-- A half's request output follows its channel's enabled flags and the system flags whose route reaches it (R177). -/
theorem InterruptUnit.asserted_iff (u : InterruptUnit) (h : Half) : u.asserted h = true ↔
    (∃ i : Fin 4, (u.channel.get h).flags.get i = true ∧ (u.channel.get h).enables.get i = true) ∨
    ∃ i : Fin 6, u.system.get i = true ∧ (u.routes.get i).reaches h = true := by
  simp only [InterruptUnit.asserted, Bool.or_eq_true, List.any_eq_true, List.mem_finRange, true_and, Bool.and_eq_true]

/-- Settles O23: the same condition for both outputs, each with the routes that reach its half. -/
theorem requestOutputsFollowFlags : Obligations.RequestOutputsFollowFlags := by
  intro s
  constructor
  case left =>
    exact (s.irq.asserted_iff .control).trans
      (or_congr_right (exists_congr fun i => and_congr_right' (s.irq.routes.get i).reaches_control))
  case right =>
    exact (s.irq.asserted_iff .archive).trans
      (or_congr_right (exists_congr fun i => and_congr_right' (s.irq.routes.get i).reaches_archive))

end Sys2Proof.Machine

/-! PROOFS. Undisturbed: what every row leaves of the queue, CLK, RESETn and the port addresses (O1, O2, O54). -/
namespace Sys2Proof.Machine

/-- What no row but an edge of RESETn disturbs: the queue, CLK and RESETn stand (logs 1 and 9), and a port address that names a
word that exists still names one (R194, R195). -/
structure Undisturbed (s t : State) : Prop where
  pending : t.pending = s.pending
  clockRunning : t.clockRunning = s.clockRunning
  inReset : t.inReset = s.inReset
  ports : ∀ h, (s.ports.get h).valid = true → (t.ports.get h).valid = true

/-- A change of the blocks alone. -/
theorem Undisturbed.stand {s t : State} (pending : t.pending = s.pending) (clockRunning : t.clockRunning = s.clockRunning)
    (inReset : t.inReset = s.inReset) (ports : t.ports = s.ports) : Undisturbed s t :=
  ⟨pending, clockRunning, inReset, fun h valid => by rw [ports]; exact valid⟩

theorem Undisturbed.refl (s : State) : Undisturbed s s := .stand rfl rfl rfl rfl

theorem Undisturbed.trans {s t u : State} (a : Undisturbed s t) (b : Undisturbed t u) : Undisturbed s u :=
  ⟨b.pending.trans a.pending, b.clockRunning.trans a.clockRunning, b.inReset.trans a.inReset,
    fun h valid => b.ports h (a.ports h valid)⟩

/-- What came before disturbed nothing either. -/
theorem Undisturbed.after {s t u : State} (b : Undisturbed t u) (a : Undisturbed s t) : Undisturbed s u := a.trans b

theorem Undisturbed.ite {s t u : State} {c : Prop} [Decidable c] (a : Undisturbed s t) (b : Undisturbed s u) :
    Undisturbed s (if c then t else u) := by
  split
  · exact a
  · exact b

theorem OnlyEvents.undisturbed {s t : State} (a : OnlyEvents s t) : Undisturbed s t :=
  .stand a.pending a.clockRunning a.inReset a.ports

theorem OnlyReports.undisturbed {s t : State} (a : OnlyReports s t) : Undisturbed s t := a.toEvents.undisturbed

theorem Handled.undisturbed {s t : State} (a : Handled s t) : Undisturbed s t := a.events.undisturbed

theorem LineHandled.undisturbed {l : LineId} {s t : State} (a : LineHandled l s t) : Undisturbed s t := a.events.undisturbed

/-! ## The channels -/

theorem setChannel_undisturbed (s : State) (h : Half) (x : Channel) : Undisturbed s (s.setChannel h x) :=
  .stand rfl rfl rfl rfl

theorem clearStore_undisturbed (s : State) : Undisturbed s (clearStore s) := by
  rw [clearStore_eq_withReports]
  exact .stand rfl rfl rfl rfl

theorem readChannelData_undisturbed (h : Half) (s : State) : Undisturbed s (readChannelData h s) := by
  unfold readChannelData
  cases s.deliverable h with
  | none => exact setChannel_undisturbed s h _
  | some r => exact .ite (setChannel_undisturbed s h _) (consume_onlyReports h s).undisturbed

theorem enableFromOldest_undisturbed (h : Half) (s : State) : Undisturbed s (enableFromOldest h s).2 := by
  unfold enableFromOldest
  dsimp only
  split
  · exact .refl s
  · exact (readyRules_onlyReports h 0 _).undisturbed.after (setChannel_undisturbed s h _)

theorem enableFromNext_undisturbed (h : Half) (s : State) : Undisturbed s (enableFromNext h s).2 := by
  unfold enableFromNext
  dsimp only
  split
  · exact .refl s
  · exact (reclaim_onlyReports _).undisturbed.after (setChannel_undisturbed s h _)

theorem disableChannel_undisturbed (h : Half) (s : State) : Undisturbed s (disableChannel h s).2 := by
  unfold disableChannel
  dsimp only
  split
  · exact (reclaim_onlyReports _).undisturbed.after (setChannel_undisturbed s h _)
  · exact .refl s

theorem skipRecord_undisturbed (h : Half) (s : State) : Undisturbed s (skipRecord h s).2 := by
  unfold skipRecord
  dsimp only
  split
  · exact .refl s
  · split
    · exact .refl s
    · exact (consume_onlyReports h s).undisturbed

theorem rereadRecord_undisturbed (h : Half) (s : State) : Undisturbed s (rereadRecord h s).2 := by
  unfold rereadRecord
  dsimp only
  split
  · exact .refl s
  · split
    · exact .refl s
    · exact setChannel_undisturbed s h _

theorem writeThreshold_undisturbed (h : Half) (v : Word) (s : State) : Undisturbed s (writeThreshold h v s) :=
  .ite (.refl s) (.ite (.stand rfl rfl rfl rfl) (setChannel_undisturbed s h _))

theorem readyCleared_undisturbed (h : Half) (s : State) : Undisturbed s (readyCleared h s) :=
  .ite (.refl s) (.ite (setChannel_undisturbed s h _) (.ite (.stand rfl rfl rfl rfl) (.refl s)))

theorem writeChannelCauses_undisturbed (h : Half) (v : Word) (s : State) : Undisturbed s (writeChannelCauses h v s) :=
  .ite ((readyCleared_undisturbed h _).after (.stand rfl rfl rfl rfl)) (.stand rfl rfl rfl rfl)

/-! ## The Time Base -/

theorem setTime_undisturbed (s : State) (t : TimeBase) : Undisturbed s { s with time := t } := .stand rfl rfl rfl rfl

theorem changeQuality_undisturbed (q : Quality) (s : State) : Undisturbed s (changeQuality q s) := by
  have recorded : Undisturbed s (report ⟨s.time.counter, q⟩ false (.time .quality s.time.quality q 0)
      { s with time := { s.time with quality := q } }) :=
    (setTime_undisturbed s _).trans (report_onlyReports _ _ _ _).undisturbed
  exact .ite (.refl s) (recorded.trans (raise_handled .timeQuality _).undisturbed)

/-- A change of the Time Base, its record, the quality's change and the notice: a step (R30) and SET TIME (R32). -/
theorem timeNoticed_undisturbed (t : TimeBase) (stamp : Stamp) (body : Body) (q : Quality) (s : State) :
    Undisturbed s (discontinuityNotice (changeQuality q (report stamp false body { s with time := t }))) :=
  (((setTime_undisturbed s t).trans (report_onlyReports stamp false body _).undisturbed).trans
    (changeQuality_undisturbed q _)).trans (discontinuityNotice_handled _).undisturbed

theorem setCounter_undisturbed (v : Timestamp) (s : State) : Undisturbed s (setCounter v s) := by
  rw [setCounter_eq]
  exact timeNoticed_undisturbed _ _ _ _ s

theorem alignCounter_undisturbed (beyond : Quality) (s : State) : Undisturbed s (alignCounter beyond s) := by
  have corrected : Undisturbed s (correctCounter (pulseOffset s.time.counter) s) :=
    .ite (setTime_undisturbed s _) (setTime_undisturbed s _)
  exact .ite (corrected.trans (changeQuality_undisturbed _ _)) (timeNoticed_undisturbed _ _ _ _ s)

theorem takePulse_undisturbed (s : State) : Undisturbed s (takePulse s) := by
  have unheld : Undisturbed s s.unheld := setTime_undisturbed s _
  have aligned : ∀ beyond, Undisturbed s (alignCounter beyond s.unheld) := fun beyond =>
    unheld.trans (alignCounter_undisturbed beyond _)
  unfold takePulse
  refine Undisturbed.trans ?_ (setTime_undisturbed _ _)
  cases s.time.quality with
  | free => exact unheld
  | acquiring => exact .ite (aligned .locked) unheld
  | locked => exact aligned .acquiring
  | holdover => exact aligned .acquiring

/-- The end of supervision (R31). -/
theorem superviseEnds_undisturbed (s : State) : Undisturbed s
    (if s.time.quality = .locked then changeQuality .holdover { s with time := { s.time with supervision := none } }
      else { s with time := { s.time with supervision := none } }) :=
  .ite ((changeQuality_undisturbed _ _).after (setTime_undisturbed s _)) (setTime_undisturbed s _)

theorem writeTimeControl_undisturbed (v : Word) (s : State) : Undisturbed s (writeTimeControl v s) :=
  .ite (.ite (.refl s) ((changeQuality_undisturbed _ _).after (setTime_undisturbed s _)))
    (.ite ((changeQuality_undisturbed _ _).after (setTime_undisturbed s _)) (.refl s))

/-! ## The table ports (R194, R195, R198) -/

/-- An address names a word that exists where its select has a shape that it fits (R194, Table 42). -/
theorem PortAddress.valid_iff (p : PortAddress) : p.valid = true ↔
    ∃ entries words, tableShape p.select = some (entries, words) ∧ p.index < entries ∧ p.offset < words := by
  unfold PortAddress.valid
  cases shape : tableShape p.select with
  | none => simp
  | some size =>
    obtain ⟨entries, words⟩ := size
    simp

/-- The address after a data access names a word that exists (R195). -/
theorem PortAddress.step_valid {p : PortAddress} (h : p.valid = true) : p.step.valid = true := by
  obtain ⟨entries, words, shape, index, offset⟩ := p.valid_iff.mp h
  rw [PortAddress.step_eq shape]
  split
  · next more => exact (valid_iff _).mpr ⟨entries, words, shape, index, more⟩
  · split
    · next more => exact (valid_iff _).mpr ⟨entries, words, shape, more, Nat.zero_lt_of_lt offset⟩
    · exact (valid_iff _).mpr ⟨entries, words, shape, Nat.zero_lt_of_lt index, Nat.zero_lt_of_lt offset⟩

/-- One port given an address that names a word leaves every valid address valid. -/
theorem setPort_undisturbed {s : State} {h : Half} {p : PortAddress}
    (valid : (s.ports.get h).valid = true → p.valid = true) : Undisturbed s { s with ports := s.ports.set h p } := by
  refine ⟨rfl, rfl, rfl, fun k before => ?_⟩
  dsimp only
  by_cases same : k = h
  · subst same
    rw [PerHalf.get_set_same]
    exact valid before
  · rw [PerHalf.get_set_other _ _ _ _ same]
    exact before

theorem stepPort_undisturbed (h : Half) (s : State) : Undisturbed s (stepPort h s) :=
  setPort_undisturbed PortAddress.step_valid

theorem writePortAddress_undisturbed (h : Half) (v : Word) (s : State) : Undisturbed s (writePortAddress h v s) := by
  unfold writePortAddress
  split
  · next valid => exact setPort_undisturbed fun _ => valid
  · exact .refl s

/-- s with the configuration tables of u (Table 42). -/
def State.withTables (s u : State) : State :=
  { s with
    lineTable := u.lineTable
    profiles := u.profiles
    groups := u.groups
    rules := u.rules
    outputs := { s.outputs with lines := u.outputs.lines }
    alarms := { s.alarms with escalation := u.alarms.escalation } }

/-- A word taken is one that its entry accepts. -/
theorem acceptOr_accepted {α : Type} {o : Option α} {f : α → State} {u : State} (taken : acceptOr o f = .accepted u) :
    ∃ x, u = f x := by
  cases o with
  | none => cases taken
  | some x => cases taken; exact ⟨x, rfl⟩

/-- An accepted word changes the tables alone (R198). -/
theorem writeTable_accepted {s u : State} {p : PortAddress} {w : Word} (taken : writeTable s p w = .accepted u) :
    u = s.withTables u := by
  unfold writeTable at taken
  split at taken
  · unfold writeLineEntry at taken
    split at taken
    · cases taken
    · split at taken
      · cases taken
      · obtain ⟨_, rfl⟩ := acceptOr_accepted taken; rfl
  · unfold writeProfile at taken
    split at taken
    · cases taken
    · obtain ⟨_, rfl⟩ := acceptOr_accepted taken; rfl
  · unfold writeGroup at taken
    split at taken
    · cases taken
    · split at taken
      · cases taken
      · cases taken; rfl
  · unfold writeRule at taken
    split at taken
    · cases taken
    · split at taken
      · cases taken
      · obtain ⟨_, rfl⟩ := acceptOr_accepted taken; rfl
  · unfold writeOutput at taken
    split at taken
    · cases taken
    · obtain ⟨_, rfl⟩ := acceptOr_accepted taken; rfl
  · obtain ⟨_, rfl⟩ := acceptOr_accepted taken; rfl
  · cases taken

theorem writeTableData_undisturbed (w : Word) (s : State) : Undisturbed s (writeTableData w s) := by
  refine Undisturbed.trans ?_ (stepPort_undisturbed .control _)
  cases judged : writeTable s s.ports.control w with
  | accepted u =>
    rw [writeTable_accepted judged]
    exact .stand rfl rfl rfl rfl
  | refused reason => exact .stand rfl rfl rfl rfl
  | ignored => exact .refl s

/-! ## The commands of CMD (Table 41) -/

/-- A command disturbs nothing where its block does not. -/
theorem command_undisturbed {s : State} (h : Half) (code : Word) {act : Slot → State → ResultCode × State}
    (acts : Undisturbed s (act (s.slots.get h) s).2) : Undisturbed s (takeCommand h code act s) :=
  acts.trans (.stand rfl rfl rfl rfl)

/-- A command of the control half, likewise. -/
theorem controlCommand_undisturbed {s : State} (h : Half) (code : Word) {act : Slot → State → ResultCode × State}
    (acts : Undisturbed s (act (s.slots.get h) s).2) :
    Undisturbed s (takeCommand h code (fun slot s => controlOnly h s (act slot s)) s) :=
  command_undisturbed h code (controlOnly_keeps h (.refl s) acts)

theorem armLine_undisturbed (l : LineId) (s : State) : Undisturbed s (armLine l s).2 := by
  unfold armLine
  split
  · exact .refl s
  · exact (armDisarmed_handled l s).undisturbed

theorem disarmLine_undisturbed (l : LineId) (s : State) : Undisturbed s (disarmLine l s).2 := by
  unfold disarmLine
  split
  · exact (disarmArmed_handled l s).undisturbed
  · exact .refl s

theorem injectLine_undisturbed (l : LineId) (v : Level) (s : State) : Undisturbed s (injectLine l v s).2 := by
  unfold injectLine
  split
  · exact .refl s
  · split
    · exact .refl s
    · exact (injectLevel_handled l (some v) s).undisturbed

theorem endInjectLine_undisturbed (l : LineId) (s : State) : Undisturbed s (endInjectLine l s).2 := by
  unfold endInjectLine
  split
  · exact .refl s
  · split
    · exact .refl s
    · exact (injectLevel_handled l none s).undisturbed

theorem groupReset_undisturbed (g : GroupId) (s : State) : Undisturbed s (groupReset g s).2 := by
  unfold groupReset
  split
  · exact .refl s
  · exact .refl s
  · exact (clearGroup_handled g s).undisturbed

theorem ruleEnable_undisturbed (r : RuleId) (s : State) : Undisturbed s (ruleEnable r s).2 := by
  unfold ruleEnable
  split
  · exact .refl s
  · exact .stand rfl rfl rfl rfl

theorem ruleDisable_undisturbed (r : RuleId) (s : State) : Undisturbed s (ruleDisable r s).2 := by
  unfold ruleDisable
  split
  · exact (lapseOldest_handled .disabled r _ s).undisturbed.trans (.stand rfl rfl rfl rfl)
  · exact .refl s

theorem pulseOutput_undisturbed (q : OutputId) (s : State) : Undisturbed s (pulseOutput q s).2 := by
  unfold pulseOutput
  split
  · exact .refl s
  · exact (requestPulse_handled q s).undisturbed

theorem acknowledged_undisturbed {s : State} {r : Bool × State} (a : Handled s r.2) : Undisturbed s (acknowledged r).2 := by
  unfold acknowledged
  split
  · exact (a.trans (handSummaries_handled _)).undisturbed
  · exact a.undisturbed

theorem markNote_undisturbed (note : Word) (h : Half) (s : State) : Undisturbed s (markNote note h s).2 := by
  unfold markNote
  split
  · exact .refl s
  · exact (report_onlyReports _ _ _ _).undisturbed

theorem restartPart_undisturbed (s : State) : Undisturbed s (restartPart s) := by
  have blocks : Undisturbed s (restartBlocks s) := by
    rw [restartBlocks_eq]
    exact .stand rfl rfl rfl rfl
  rw [restartPart_eq]
  exact (blocks.trans (restartRecorded_reports s).undisturbed).trans (settleLines_events _ _).undisturbed

/-- A command whose operand is checked first (R187, step 3). -/
theorem operand_undisturbed {α : Type} {s : State} (o : Option α) {act : α → ResultCode × State}
    (acts : ∀ x, Undisturbed s (act x).2) : Undisturbed s (withOperand o s act).2 := withOperand_keeps o (.refl s) acts

theorem cmdSetTime_undisturbed (h : Half) (s : State) : Undisturbed s (cmdSetTime h s) := by
  have loaded := setCounter_undisturbed (timeOperand s.time.setHigh (s.slots.get h)) s
  refine controlCommand_undisturbed h _ ?_
  dsimp only
  exact loaded

/-- Whatever value is written to CMD, the command it names disturbs nothing (R186, R187). -/
theorem writeCmd_undisturbed (h : Half) (v : Word) (s : State) : Undisturbed s (writeCmd h v s) := by
  generalize named : writeCmd h v = command
  unfold writeCmd at named
  split at named <;> subst named
  · exact controlCommand_undisturbed h _ (operand_undisturbed _ fun l => armLine_undisturbed l s)
  · exact controlCommand_undisturbed h _ (operand_undisturbed _ fun l => disarmLine_undisturbed l s)
  · exact controlCommand_undisturbed h _ (operand_undisturbed _ fun l =>
      operand_undisturbed _ fun v => injectLine_undisturbed l v s)
  · exact controlCommand_undisturbed h _ (operand_undisturbed _ fun l => endInjectLine_undisturbed l s)
  · exact controlCommand_undisturbed h _ (operand_undisturbed _ fun g => groupReset_undisturbed g s)
  · exact controlCommand_undisturbed h _ (operand_undisturbed _ fun r => ruleEnable_undisturbed r s)
  · exact controlCommand_undisturbed h _ (operand_undisturbed _ fun r => ruleDisable_undisturbed r s)
  · exact cmdSetTime_undisturbed h s
  · exact controlCommand_undisturbed h _ (report_onlyReports _ _ _ _).undisturbed
  · exact controlCommand_undisturbed h _ (clearStore_undisturbed s)
  · exact controlCommand_undisturbed h _ (operand_undisturbed _ fun q => pulseOutput_undisturbed q s)
  · exact controlCommand_undisturbed h _ (restartPart_undisturbed s)
  · exact command_undisturbed h _ (operand_undisturbed _ fun l => acknowledged_undisturbed (ackEntry_handled _ h l s))
  · exact command_undisturbed h _ (acknowledged_undisturbed (ackEntries_handled _ h _ (false, s)))
  · exact command_undisturbed h _ (silenceEntries_handled h s).undisturbed
  · exact command_undisturbed h _ (markNote_undisturbed _ h s)
  · exact command_undisturbed h _ (enableFromOldest_undisturbed h s)
  · exact command_undisturbed h _ (enableFromNext_undisturbed h s)
  · exact command_undisturbed h _ (disableChannel_undisturbed h s)
  · exact command_undisturbed h _ (skipRecord_undisturbed h s)
  · exact command_undisturbed h _ (rereadRecord_undisturbed h s)
  · exact command_undisturbed h _ (.refl s)

/-! ## The words of the window (Table 38) -/

theorem writeControlWord_undisturbed (n : Nat) (v : Word) (s : State) : Undisturbed s (writeControlWord n v s) := by
  unfold writeControlWord
  split
  · exact .stand rfl rfl rfl rfl
  · exact .stand rfl rfl rfl rfl
  · exact writeCmd_undisturbed .control v s
  · exact writePortAddress_undisturbed .control v s
  · exact writeTableData_undisturbed v s
  · exact .stand rfl rfl rfl rfl
  · exact writeTimeControl_undisturbed v s
  · exact .ite (.refl s) (setTime_undisturbed s _)
  · exact .ite (.refl s) (setTime_undisturbed s _)
  · exact setTime_undisturbed s _
  · exact .stand rfl rfl rfl rfl
  · exact .stand rfl rfl rfl rfl
  · exact writeThreshold_undisturbed .control v s
  · exact setChannel_undisturbed s .control _
  · exact writeChannelCauses_undisturbed .control v s
  · exact .stand rfl rfl rfl rfl
  · exact .stand rfl rfl rfl rfl
  · exact .refl s

theorem writeArchiveWord_undisturbed (n : Nat) (v : Word) (s : State) : Undisturbed s (writeArchiveWord n v s) := by
  unfold writeArchiveWord
  split
  · exact .stand rfl rfl rfl rfl
  · exact .stand rfl rfl rfl rfl
  · exact writeCmd_undisturbed .archive v s
  · exact writePortAddress_undisturbed .archive v s
  · exact writeThreshold_undisturbed .archive v s
  · exact setChannel_undisturbed s .archive _
  · exact writeChannelCauses_undisturbed .archive v s
  · exact .stand rfl rfl rfl rfl
  · exact .refl s

/-- Whatever word of either half is written (R182, R184). -/
theorem writeWord_undisturbed (w : WordId) (v : Word) (s : State) : Undisturbed s (writeWord w v s) := by
  unfold writeWord
  split
  · exact writeControlWord_undisturbed _ v s
  · exact writeArchiveWord_undisturbed _ v s

/-! ## The timers (log 3) -/

/-- The sampling of a field input (R1, R22). -/
theorem sampledLine_undisturbed (l : LineId) (v : Level) (s : State) : Undisturbed s
    (if !s.clockRunning then s else if s.inReset then s.setLine l (LineState.reset v)
      else observeLevel l (s.setLine l { s.lines.get l with physical := v })) :=
  .ite (.refl s) (.ite (setLine_handled s l _).undisturbed
    ((setLine_handled s l _).trans (observeLevel_handled l _)).undisturbed)

theorem execQualificationExpiry_undisturbed (l : LineId) {s t : State} (ran : execQualificationExpiry l s = .next t) :
    Undisturbed s t := by
  cases ran
  refine timed_keeps (.refl s) fun _ => .ite ?_ (.refl s)
  cases (s.lines.get l).cond with
  | settling => exact (qualifySettling_handled l s).undisturbed
  | departing => exact (qualifyDeparture_handled l s).undisturbed
  | returning => exact (qualifyReturn_handled l s).undisturbed
  | _ => exact .refl s

theorem execEscalationTimerExpiry_undisturbed (l : LineId) {s t : State} (ran : execEscalationTimerExpiry l s = .next t) :
    Undisturbed s t := by
  cases ran
  refine timed_keeps (.refl s) fun _ => ?_
  cases s.alarmOf l with
  | none => exact .refl s
  | some e => exact .ite (escalate_handled e s).undisturbed (.refl s)

/-! ## Rows -/

theorem timed_undisturbed {s t : State} (acts : Undisturbed s t) : Undisturbed s (timed s t) :=
  timed_keeps (.refl s) fun _ => acts

theorem live_undisturbed {s t : State} (acts : Undisturbed s t) : Undisturbed s (live s t) :=
  live_keeps (.refl s) fun _ => acts

theorem readStrobe_undisturbed {s t : State} (w : Word) (acts : Undisturbed s t) : Undisturbed s (readStrobe s w t) :=
  .ite (.stand rfl rfl rfl rfl) (acts.trans (.stand rfl rfl rfl rfl))

/-- What a row does (R182, R187): it disturbs nothing outside the blocks, or it is an edge of RESETn (R183, R193). -/
theorem exec_cases {c : Instr} {s t : State} (ran : exec c s = .next t) :
    Undisturbed s t ∨ t = holdInReset s ∨ t = releaseReset s := by
  cases c with
  | resetnAsserted =>
    cases ran
    split
    · exact .inr (.inl rfl)
    · exact .inl (.refl s)
  | hardwareReset =>
    cases ran
    split
    · exact .inr (.inr rfl)
    · exact .inl (.refl s)
  | fieldLineChange l v => cases ran; exact .inl (sampledLine_undisturbed l v s)
  | syncPulse => cases ran; exact .inl (timed_undisturbed (.ite (takePulse_undisturbed s) (.refl s)))
  | qualificationExpiry l => exact .inl (execQualificationExpiry_undisturbed l ran)
  | chatterWindowExpiry l => cases ran; exact .inl (timed_undisturbed (setLine_handled s l _).undisturbed)
  | releaseExpiry l => cases ran; exact .inl (timed_undisturbed (.ite (releaseLine_handled l s).undisturbed (.refl s)))
  | supervisionExpiry => cases ran; exact .inl (timed_undisturbed (.ite (superviseEnds_undisturbed s) (.refl s)))
  | holdAbsorbed => cases ran; exact .inl (timed_undisturbed (setTime_undisturbed s _))
  | resolutionTimerExpiry g =>
    cases ran; exact .inl (timed_undisturbed (.ite (resolveGroup_handled g false s).undisturbed (.refl s)))
  | lapseTimerExpiry r k => cases ran; exact .inl (timed_undisturbed (lapse_handled .window r k s).undisturbed)
  | escalationTimerExpiry l => exact .inl (execEscalationTimerExpiry_undisturbed l ran)
  | lengthTimerExpiry q => cases ran; exact .inl (timed_undisturbed (.ite (.stand rfl rfl rfl rfl) (.refl s)))
  | gapTimerExpiry q => cases ran; exact .inl (timed_undisturbed (.ite (.stand rfl rfl rfl rfl) (.refl s)))
  | holdoffTimerExpiry h => cases ran; exact .inl (timed_undisturbed (.ite (.stand rfl rfl rfl rfl) (.refl s)))
  | flashPhase => cases ran; exact .inl (timed_undisturbed (.stand rfl rfl rfl rfl))
  | channelDataRead h => cases ran; exact .inl (readStrobe_undisturbed _ (readChannelData_undisturbed h s))
  | channelStatusRead h => cases ran; exact .inl (readStrobe_undisturbed _ (setChannel_undisturbed s h _))
  | timeHighRead h => cases ran; exact .inl (readStrobe_undisturbed _ (setTime_undisturbed s _))
  | tableDataRead => cases ran; exact .inl (readStrobe_undisturbed _ (stepPort_undisturbed .control s))
  | mirrorDataRead => cases ran; exact .inl (readStrobe_undisturbed _ (stepPort_undisturbed .archive s))
  | tableStatusRead => cases ran; exact .inl (readStrobe_undisturbed _ (.stand rfl rfl rfl rfl))
  | tableDataWrite v => cases ran; exact .inl (live_undisturbed (writeTableData_undisturbed v s))
  | tableAddressWrite v => cases ran; exact .inl (live_undisturbed (writePortAddress_undisturbed .control v s))
  | mirrorAddressWrite v => cases ran; exact .inl (live_undisturbed (writePortAddress_undisturbed .archive v s))
  | storeControlWrite v => cases ran; exact .inl (live_undisturbed (.stand rfl rfl rfl rfl))
  | timeControlWrite v => cases ran; exact .inl (live_undisturbed (writeTimeControl_undisturbed v s))
  | outputDataWrite v => cases ran; exact .inl (live_undisturbed (.stand rfl rfl rfl rfl))
  | readyThresholdWrite h v => cases ran; exact .inl (live_undisturbed (writeThreshold_undisturbed h v s))
  | readyHoldoffWrite h v => cases ran; exact .inl (live_undisturbed (setChannel_undisturbed s h _))
  | channelCausesWrite h v => cases ran; exact .inl (live_undisturbed (writeChannelCauses_undisturbed h v s))
  | systemCausesWrite h v => cases ran; exact .inl (live_undisturbed (.stand rfl rfl rfl rfl))
  | systemRoutesWrite v => cases ran; exact .inl (live_undisturbed (.stand rfl rfl rfl rfl))
  | registerWrite w v => cases ran; exact .inl (live_undisturbed (writeWord_undisturbed w v s))
  | badCommand h v => cases ran; exact .inl (live_undisturbed (writeCmd_undisturbed h v s))
  | armLine h => cases ran; exact .inl (live_undisturbed (writeCmd_undisturbed h 0x01 s))
  | disarmLine h => cases ran; exact .inl (live_undisturbed (writeCmd_undisturbed h 0x02 s))
  | inject h => cases ran; exact .inl (live_undisturbed (writeCmd_undisturbed h 0x03 s))
  | endInject h => cases ran; exact .inl (live_undisturbed (writeCmd_undisturbed h 0x04 s))
  | groupReset h => cases ran; exact .inl (live_undisturbed (writeCmd_undisturbed h 0x08 s))
  | ruleEnable h => cases ran; exact .inl (live_undisturbed (writeCmd_undisturbed h 0x0C s))
  | ruleDisable h => cases ran; exact .inl (live_undisturbed (writeCmd_undisturbed h 0x0D s))
  | setTime h => cases ran; exact .inl (live_undisturbed (writeCmd_undisturbed h 0x10 s))
  | snapshot h => cases ran; exact .inl (live_undisturbed (writeCmd_undisturbed h 0x11 s))
  | storeClear h => cases ran; exact .inl (live_undisturbed (writeCmd_undisturbed h 0x12 s))
  | pulse h => cases ran; exact .inl (live_undisturbed (writeCmd_undisturbed h 0x14 s))
  | restart h => cases ran; exact .inl (live_undisturbed (writeCmd_undisturbed h 0x1F s))
  | ackLine h => cases ran; exact .inl (live_undisturbed (writeCmd_undisturbed h 0x20 s))
  | ackAll h => cases ran; exact .inl (live_undisturbed (writeCmd_undisturbed h 0x21 s))
  | silence h => cases ran; exact .inl (live_undisturbed (writeCmd_undisturbed h 0x22 s))
  | mark h => cases ran; exact .inl (live_undisturbed (writeCmd_undisturbed h 0x23 s))
  | channelEnableFromOldest h => cases ran; exact .inl (live_undisturbed (writeCmd_undisturbed h 0x30 s))
  | channelEnableFromNext h => cases ran; exact .inl (live_undisturbed (writeCmd_undisturbed h 0x31 s))
  | channelDisable h => cases ran; exact .inl (live_undisturbed (writeCmd_undisturbed h 0x32 s))
  | channelSkip h => cases ran; exact .inl (live_undisturbed (writeCmd_undisturbed h 0x33 s))
  | channelReread h => cases ran; exact .inl (live_undisturbed (writeCmd_undisturbed h 0x34 s))

/-- Every row answers a next state, whatever the state (R182, R187). -/
theorem exec_answers (c : Instr) (s : State) : ∃ t, exec c s = .next t := by
  cases c <;> exact ⟨_, rfl⟩

/-! ## Steps -/

/-- Settles O1: the queue's front is the command taken. -/
theorem stepTakesFrontCommand : Obligations.StepTakesFrontCommand := fun _ _ _ => rfl

/-- Every step answers a next state: a row's, or with nothing waiting and nothing due, a microsecond's. -/
theorem step_answers (s : State) : ∃ t, step s = .next t := by
  cases queue : s.pending with
  | cons c rest =>
    obtain ⟨t, ran⟩ := exec_answers c { s with pending := rest }
    exact ⟨t, by rw [← ran]; simp only [step, queue]⟩
  | nil =>
    rw [step_idle queue]
    unfold idle
    split
    · exact ⟨s, rfl⟩
    · split
      · exact ⟨tick s, rfl⟩
      · exact exec_answers _ _
      · exact exec_answers _ _

/-- What a step does: nothing, a microsecond out of reset, or a row on the state with another queue and another count of free
choices (logs 1, 2 and 21). -/
theorem step_cases {s t : State} (ran : step s = .next t) : t = s ∨ (s.inReset = false ∧ t = tick s) ∨
    ∃ c queue index, exec c { s with pending := queue, freeIndex := index } = .next t := by
  cases queue : s.pending with
  | cons c rest =>
    simp only [step, queue] at ran
    exact .inr (.inr ⟨c, rest, s.freeIndex, ran⟩)
  | nil =>
    rw [step_idle queue] at ran
    unfold idle at ran
    split at ran
    · cases ran; exact .inl rfl
    · next off =>
      split at ran
      · cases ran; exact .inr (.inl ⟨(running_of_not_stopped off).1, rfl⟩)
      · exact .inr (.inr ⟨_, s.pending, s.freeIndex, ran⟩)
      · exact .inr (.inr ⟨_, s.pending, _, ran⟩)

theorem releaseReset_reports (s : State) : OnlyReports { holdInReset s with inReset := false } (releaseReset s) :=
  report_onlyReports _ _ _ _

/-- Settles O2: what each row does to the queue and CLK, the edges of RESETn among them. -/
theorem everyCommandAnswersNext : Obligations.EveryCommandAnswersNext := by
  refine ⟨fun c s => ?_, step_answers⟩
  obtain ⟨t, ran⟩ := exec_answers c s
  refine ⟨t, ran, ?_⟩
  obtain same | rfl | rfl := exec_cases ran
  · exact ⟨same.pending, same.clockRunning⟩
  · exact ⟨rfl, rfl⟩
  · exact ⟨(releaseReset_reports s).pending, (releaseReset_reports s).clockRunning⟩

/-- Hardware reset leaves both port addresses on word 0 of LINE entry 0 (R194). -/
theorem holdInReset_ports (s : State) (h : Half) : ((holdInReset s).ports.get h).valid = true := by
  cases h <;> rfl

/-- Every row keeps both port addresses valid (R194, R195). -/
theorem exec_keeps_ports {c : Instr} {s t : State} (valid : ∀ h, (s.ports.get h).valid = true) (ran : exec c s = .next t)
    (h : Half) : (t.ports.get h).valid = true := by
  obtain same | rfl | rfl := exec_cases ran
  · exact same.ports h (valid h)
  · exact holdInReset_ports s h
  · rw [(releaseReset_reports s).ports]
    exact holdInReset_ports s h

/-- Settles O54: a step that is no row touches no port. -/
theorem portAddressesStayValid : Obligations.PortAddressesStayValid := by
  intro s t valid ran
  obtain rfl | ⟨-, rfl⟩ | ⟨c, queue, index, ran⟩ := step_cases ran
  · exact valid
  · exact valid
  · exact exec_keeps_ports (s := { s with pending := queue, freeIndex := index }) valid ran

end Sys2Proof.Machine

/-! PROOFS. ResetLine: RESETn asserted and released: the values held, what is taken while it is asserted, and the values after its
release (O4, O5, O6). -/
namespace Sys2Proof.Machine

/-! ## The release (R193) -/

/-- The RESTART record is the first in the empty store, with both channels disabled to hear of it (R82, R193). -/
theorem releaseReset_eq (s : State) : releaseReset s = { State.reset with
    lines := s.lines.map fun x => LineState.reset x.physical
    clockRunning := s.clockRunning
    lastRead := s.lastRead
    freeIndex := s.freeIndex
    pending := s.pending } := by
  have fits : (Body.restart .reset).len + 5 ≤ { holdInReset s with inReset := false }.store.free :=
    show 11 ≤ 4096 by decide
  unfold releaseReset report
  rw [append_fits rfl fits]
  rfl

/-- The words that Table 38 gives after hardware reset are read so whatever the inputs, CLK and the queue. -/
theorem releaseReset_words (s : State) {p : Nat × Word} (listed : p ∈ resetWords) :
    (releaseReset s).busRead (BitVec.ofNat 6 p.1) = p.2 ∧ (releaseReset s).busRead (BitVec.ofNat 6 (p.1 + 32)) = p.2 := by
  have noPort : ∀ q ∈ resetWords, (BitVec.ofNat 6 q.1).toNat % 32 ≠ 7 ∧ (BitVec.ofNat 6 (q.1 + 32)).toNat % 32 ≠ 7 := by
    decide
  have words : ∀ q ∈ resetWords, State.reset.readWord (BitVec.ofNat 6 q.1) = q.2 ∧
      State.reset.readWord (BitVec.ofNat 6 (q.1 + 32)) = q.2 := by decide
  obtain ⟨low, high⟩ := noPort p listed
  rw [releaseReset_eq, busRead_running rfl, busRead_running rfl, readWord_lines _ _ _ _ _ _ _ low,
    readWord_lines _ _ _ _ _ _ _ high]
  exact words p listed

/-- Settles O4: the state after the release written out, then read item by item. -/
theorem hardwareResetRestoresValues : Obligations.HardwareResetRestoresValues := by
  constructor
  case left =>
    intro s stopped
    exact congrArg Host.Outcome.next (if_neg (by simp [stopped]))
  case right =>
    intro s clock
    have words := fun p => releaseReset_words s (p := p)
    have is := releaseReset_eq s
    refine ⟨_, congrArg Host.Outcome.next (if_pos clock), is, ?_⟩
    rw [is] at words ⊢
    refine ⟨rfl, rfl, rfl, rfl, rfl, rfl, fun h => ?enabled, fun h c => ?channelCause, fun c => ?cause, fun h => ?request,
      fun l => ?line, words⟩
    case enabled => cases h <;> exact ⟨rfl, rfl⟩
    case channelCause => cases h <;> cases c <;> rfl
    case cause => cases c <;> rfl
    case request => cases h <;> rfl
    case line => exact congrArg LineState.cond (get_map _ s.lines l)

/-! ## While RESETn is asserted (R183) -/

/-- No timer runs among the hardware reset values. -/
theorem holdInReset_dueCommands (s : State) : (holdInReset s).dueCommands = [] := by
  refine List.eq_nil_iff_forall_not_mem.mpr fun c due => ?_
  have line : ∀ l, (holdInReset s).lines.get l = LineState.reset (s.lines.get l).physical := get_map _ s.lines
  have group : ∀ g, (holdInReset s).groups.get g = FirstOutGroup.cleared 0 := get_replicate _
  have rule : ∀ r, (holdInReset s).rules.get r = CorrRule.reset := get_replicate _
  have output : ∀ q, (holdInReset s).outputs.lines.get q = OutputLine.reset := get_replicate _
  have channel : ∀ h, (holdInReset s).channels.get h = Channel.reset := fun h => by cases h <;> rfl
  have entries : (holdInReset s).alarms.entries = [] := rfl
  have supervision : (holdInReset s).time.supervision = none := rfl
  simp [mem_dueCommands, State.timerCame, line, group, rule, output, channel, entries, supervision, LineState.reset,
    FirstOutGroup.cleared, CorrRule.reset, OutputLine.reset, Channel.reset] at due

/-- Every output and both request outputs are released (R183). -/
theorem holdInReset_released (s : State) : (∀ h, (holdInReset s).irqAsserted h = false ∧
    (holdInReset s).requestPin h = .released) ∧ ∀ q, (holdInReset s).outputPin q = .released := by
  refine ⟨fun h => ?_, fun q => ?_⟩
  · cases h <;> exact ⟨rfl, rfl⟩
  · have output : (holdInReset s).outputs.lines.get q = OutputLine.reset := get_replicate _ q
    rw [State.outputPin, output]
    rfl

/-- A read strobe returns 0000h and does nothing else (R183). -/
theorem exec_strobe_inReset {c : Instr} {s : State} (asserted : s.inReset = true) (strobe : isReadStrobe c = true) :
    exec c s = .next { s with lastRead := 0 } := by
  cases c with
  | channelDataRead | channelStatusRead | timeHighRead | tableDataRead | mirrorDataRead | tableStatusRead =>
    exact congrArg Host.Outcome.next (readStrobe_reset _ _ asserted)
  | _ => nomatch strobe

/-- Every other access, command, pulse and expiry is not taken (R183). -/
theorem exec_untaken_inReset {c : Instr} {s : State} (asserted : s.inReset = true) (strobe : isReadStrobe c = false)
    (acts : actsInReset c = false) : exec c s = .next s := by
  cases c with
  | channelDataRead | channelStatusRead | timeHighRead | tableDataRead | mirrorDataRead | tableStatusRead =>
    nomatch strobe
  | fieldLineChange | hardwareReset | resetnAsserted => nomatch acts
  | syncPulse | qualificationExpiry | chatterWindowExpiry | releaseExpiry | supervisionExpiry | holdAbsorbed
  | resolutionTimerExpiry | lapseTimerExpiry | escalationTimerExpiry | lengthTimerExpiry | gapTimerExpiry
  | holdoffTimerExpiry | flashPhase => exact congrArg Host.Outcome.next (timed_reset _ asserted)
  | _ => exact congrArg Host.Outcome.next (live_reset _ asserted)

/-- A field input is sampled into its line's reset values (R22, log 20). -/
theorem exec_sample_inReset {s : State} (asserted : s.inReset = true) (clock : s.clockRunning = true) (l : LineId) (v : Level) :
    exec (.fieldLineChange l v) s = .next (s.setLine l (LineState.reset v)) := by
  refine congrArg Host.Outcome.next ?_
  rw [if_neg (by simp [clock]), if_pos asserted]

/-- Settles O5. -/
theorem resetnAssertedHoldsValues : Obligations.ResetnAssertedHoldsValues := by
  refine ⟨fun s stopped => ?_, fun s clock => ?_, fun c s asserted => ⟨exec_strobe_inReset asserted,
    exec_untaken_inReset asserted, ?_⟩⟩
  · exact congrArg Host.Outcome.next (if_neg (by simp [stopped]))
  · obtain ⟨requests, outputs⟩ := holdInReset_released s
    refine ⟨holdInReset s, congrArg Host.Outcome.next (if_pos clock), rfl, requests, outputs, fun w => rfl,
      holdInReset_dueCommands s, fun empty => ?_⟩
    rw [step_idle empty, idle_stopped (.inl rfl)]
  · rintro l v rfl clock
    exact exec_sample_inReset asserted clock l v

/-! ## Every step keeps the values held (R183) -/

/-- The values held are those that another assertion would give. -/
theorem holdInReset_idem (s : State) : holdInReset (holdInReset s) = holdInReset s := by
  have lines : (s.lines.map fun x => LineState.reset x.physical).map (fun x => LineState.reset x.physical) =
      s.lines.map fun x => LineState.reset x.physical := Vector.map_map
  unfold holdInReset
  dsimp only
  rw [lines]

theorem holdInReset_setLine (s : State) (l : LineId) (v : Level) :
    holdInReset (s.setLine l (LineState.reset v)) = (holdInReset s).setLine l (LineState.reset v) := by
  have lines : (put s.lines l (LineState.reset v)).map (fun x => LineState.reset x.physical) =
      put (s.lines.map fun x => LineState.reset x.physical) l (LineState.reset v) := Vector.map_set ..
  unfold holdInReset State.setLine
  dsimp only
  rw [lines]

/-- What a row does while RESETn is asserted (R22, R183, R193). -/
theorem exec_cases_inReset {c : Instr} {s t : State} (asserted : s.inReset = true) (ran : exec c s = .next t) :
    t = s ∨ t = { s with lastRead := 0 } ∨ (∃ l v, t = s.setLine l (LineState.reset v)) ∨ t = holdInReset s ∨
      t = releaseReset s := by
  cases strobe : isReadStrobe c
  case true =>
    rw [exec_strobe_inReset asserted strobe] at ran
    cases ran; exact .inr (.inl rfl)
  case false =>
    cases acts : actsInReset c
    case false =>
      rw [exec_untaken_inReset asserted strobe acts] at ran
      cases ran; exact .inl rfl
    case true =>
      cases c with
      | fieldLineChange l v =>
        cases clock : s.clockRunning
        · cases ran; exact .inl (if_pos (by simp [clock]))
        · rw [exec_sample_inReset asserted clock] at ran
          cases ran; exact .inr (.inr (.inl ⟨l, v, rfl⟩))
      | hardwareReset =>
        cases ran
        split
        · exact .inr (.inr (.inr (.inr rfl)))
        · exact .inl rfl
      | resetnAsserted =>
        cases ran
        split
        · exact .inr (.inr (.inr (.inl rfl)))
        · exact .inl rfl
      | _ => nomatch acts

theorem holdInReset_held (s : State) : (holdInReset s).resetHeld := fun _ => (holdInReset_idem s).symm

/-- After the release no values are held. -/
theorem releaseReset_held (s : State) : (releaseReset s).resetHeld := by
  intro asserted
  rw [releaseReset_eq] at asserted
  cases asserted

/-- Every row keeps the values held: out of reset only an assertion begins to hold any, and under it nothing disturbs them. -/
theorem exec_keeps_held {c : Instr} {s t : State} (held : s.resetHeld) (ran : exec c s = .next t) : t.resetHeld := by
  cases asserted : s.inReset
  case false =>
    obtain same | rfl | rfl := exec_cases ran
    · intro now
      rw [same.inReset, asserted] at now
      cases now
    · exact holdInReset_held s
    · exact releaseReset_held s
  case true =>
    have values := held asserted
    obtain rfl | rfl | ⟨l, v, rfl⟩ | rfl | rfl := exec_cases_inReset asserted ran
    · exact held
    · exact fun _ => congrArg (fun u : State => { u with lastRead := 0 }) values
    · exact fun _ => (congrArg (fun u : State => u.setLine l (LineState.reset v)) values).trans (holdInReset_setLine s l v).symm
    · exact holdInReset_held s
    · exact releaseReset_held s

/-- Settles O6: the queue and the free choices are outside the values held, and no microsecond passes under reset. -/
theorem resetValuesHeldByEveryStep : Obligations.ResetValuesHeldByEveryStep := by
  intro s t held ran
  obtain rfl | ⟨running, rfl⟩ | ⟨c, queue, index, ran⟩ := step_cases ran
  · exact held
  · intro now
    exact absurd (running.symm.trans now) Bool.false_ne_true
  · have before : State.resetHeld { s with pending := queue, freeIndex := index } := fun asserted =>
      congrArg (fun u : State => { u with pending := queue, freeIndex := index }) (held asserted)
    exact exec_keeps_held before ran

end Sys2Proof.Machine

/-! PROOFS. Refusals: MARK (O14), and the commands refused before their block acts (O58). -/
namespace Sys2Proof.Machine

section
variable {s : State} {h : Half}

/-! ## MARK (R190) -/

theorem exec_mark {t : State} {c : ResultCode} {result : Word} (running : s.inReset = false)
    (acted : markNote (s.slots.get h).arg0 h s = (c, t)) (word : resultWord c 0x23 = result) :
    exec (.mark h) s = .next (t.setSlot h ((s.slots.get h).answered 0x23 result)) := command_next running acted word

/-! ## An operand out of its range (R187, step 3) -/

theorem withOperand_outOfRange {n : Nat} {w : Word} (out : n ≤ w.toNat) (s : State) (act : Fin n → ResultCode × State) :
    withOperand (operand n w) s act = (.badOperand, s) := by
  rw [operand_outOfRange out, withOperand_none]

/-- A level out of range, whatever the line (R17). -/
theorem withOperand_level_outOfRange {w : Word} (out : 2 ≤ w.toNat) (line : Option LineId) (s : State)
    (act : LineId → Level → ResultCode × State) :
    withOperand line s (fun l => withOperand (levelOperand w) s (act l)) = (.badOperand, s) := by
  cases line with
  | none => rfl
  | some l => rw [withOperand_some, levelOperand_outOfRange out, withOperand_none]

/-! ## A value that is no command code (R186, R187) -/

/-- The codes are compared as whole words: a value of no code's number is a BAD COMMAND (Table 41). -/
theorem writeCmd_unlisted {v : Word} (unlisted : v ∉ commandCodes) :
    writeCmd h v = takeCommand h v fun _ s => (.badCommand, s) := by
  have spelled : BitVec.ofNat 16 v.toNat ∉ commandCodes := by rwa [BitVec.ofNat_toNat, BitVec.setWidth_eq]
  unfold writeCmd
  split
  case h_22 => rfl
  all_goals
    next code =>
      rw [code] at spelled
      exact absurd (by decide) spelled

theorem exec_badCommand {v : Word} (running : s.inReset = false) (unlisted : v ∉ commandCodes) :
    exec (.badCommand h v) s = .next (s.setSlot h
      ((s.slots.get h).answered v (BitVec.ofNat 16 (3 + 256 * (v.toNat % 256))))) := by
  show Host.Outcome.next (live s (writeCmd h v s)) = _
  rw [writeCmd_unlisted unlisted]
  exact command_next running rfl rfl

end

/-- Settles O14: FFFFh is the one note out of range. -/
theorem markRecordsItsNote : Obligations.MarkRecordsItsNote := by
  intro h s running
  constructor
  case left =>
    intro note
    exact ⟨exec_mark running (if_neg note) (by decide), report_onlyReports _ _ _ _, rfl⟩
  case right =>
    intro note
    exact exec_mark running (if_pos note) (by decide)

/-- Settles O58: the side first, then each operand's range, then the value. -/
theorem refusedCommandsChangeOnlyTheSlot : Obligations.RefusedCommandsChangeOnlyTheSlot := by
  refine ⟨fun s running => ⟨fun p listed => ?_, fun out p listed => ?_, fun out => ?_, fun out => ?_,
    fun out => ⟨?_, ?_⟩, fun out => ⟨?_, ?_⟩⟩, fun h v s running unlisted => exec_badCommand running unlisted⟩
  · simp only [List.cons_append, List.nil_append, List.mem_cons, List.not_mem_nil, or_false] at listed
    obtain rfl | rfl | rfl | rfl | rfl | rfl | rfl | rfl | rfl | rfl | rfl | rfl := listed
    all_goals exact command_next (h := .archive) running rfl (by decide)
  · simp only [List.cons_append, List.nil_append, List.mem_cons, List.not_mem_nil, or_false] at listed
    obtain rfl | rfl | rfl | rfl | rfl := listed
    all_goals exact command_next (h := .control) running (withOperand_outOfRange out s _) (by decide)
  · exact command_next (h := .archive) running (withOperand_outOfRange out s _) (by decide)
  · exact command_next (h := .control) running (withOperand_level_outOfRange out _ s _) (by decide)
  · exact command_next (h := .control) running (withOperand_outOfRange out s _) (by decide)
  · exact command_next (h := .control) running (withOperand_outOfRange out s _) (by decide)
  · exact command_next (h := .control) running (withOperand_outOfRange out s _) (by decide)
  · exact command_next (h := .control) running (withOperand_outOfRange out s _) (by decide)

end Sys2Proof.Machine

/-! PROOFS. TableWrites: the writes of the port addresses (O53) and of TABLE DATA (O55). -/
namespace Sys2Proof.Machine

section
variable {s : State} {w : Word}

/-! ## The addresses (R194) -/

/-- The address that a word names: select, index and offset together (Table 39). -/
theorem PortAddress.ofWord_eq (v : Word) :
    PortAddress.ofWord v = ⟨v.toNat / 4096 % 16, v.toNat / 16 % 32, v.toNat % 16⟩ := by
  simp [PortAddress.ofWord, field]

theorem writePortAddress_named (h : Half) {v : Word} (named : (PortAddress.ofWord v).valid = true) :
    writePortAddress h v s = { s with ports := s.ports.set h (PortAddress.ofWord v) } := if_pos named

theorem writePortAddress_ignored (h : Half) {v : Word} (nothing : ¬(PortAddress.ofWord v).valid = true) :
    writePortAddress h v s = s := if_neg nothing

theorem exec_tableAddressWrite (running : s.inReset = false) (v : Word) :
    exec (.tableAddressWrite v) s = .next (writePortAddress .control v s) :=
  congrArg Host.Outcome.next (live_running _ running)

theorem exec_mirrorAddressWrite (running : s.inReset = false) (v : Word) :
    exec (.mirrorAddressWrite v) s = .next (writePortAddress .archive v s) :=
  congrArg Host.Outcome.next (live_running _ running)

/-! ## What becomes of a write of TABLE DATA (R195, R196, R198) -/

theorem exec_tableDataWrite (running : s.inReset = false) (w : Word) :
    exec (.tableDataWrite w) s = .next (writeTableData w s) := congrArg Host.Outcome.next (live_running _ running)

/-- The reason of the first refusal stands (R196). -/
theorem writeTableData_refused {reason : ResultCode} (judged : writeTable s s.ports.control w = .refused reason) :
    writeTableData w s = { s with
      ports := ⟨s.ports.control.step, s.ports.archive⟩
      tableStatus := some (s.tableStatus.getD reason) } := by
  have status : (refuseWrite reason s) = { s with tableStatus := some (s.tableStatus.getD reason) } := by
    unfold refuseWrite
    cases s.tableStatus <;> rfl
  unfold writeTableData
  rw [judged]
  dsimp only
  rw [status]
  rfl

theorem writeTableData_ignored (judged : writeTable s s.ports.control w = .ignored) :
    writeTableData w s = { s with ports := ⟨s.ports.control.step, s.ports.archive⟩ } := by
  unfold writeTableData
  rw [judged]
  rfl

theorem writeTableData_accepted {u : State} (judged : writeTable s s.ports.control w = .accepted u) :
    writeTableData w s = { u with ports := ⟨s.ports.control.step, s.ports.archive⟩ } := by
  have ports : u.ports = s.ports := by rw [writeTable_accepted judged]; rfl
  unfold writeTableData
  rw [judged]
  dsimp only
  rw [stepPort, ports]
  rfl

/-- The address steps whatever the outcome (R195). -/
theorem writeTableData_ports (w : Word) (s : State) :
    (writeTableData w s).ports = ⟨s.ports.control.step, s.ports.archive⟩ := by
  cases judged : writeTable s s.ports.control w with
  | accepted u => rw [writeTableData_accepted judged]
  | refused reason => rw [writeTableData_refused judged]
  | ignored => rw [writeTableData_ignored judged]

/-- A word is taken where its entry accepts it, and refused with BAD OPERAND where a field is out of range (R198). -/
theorem acceptOr_judged {α : Type} (o : Option α) (f : α → State) :
    (o = none → acceptOr o f = .refused .badOperand) ∧ ∀ x, o = some x → acceptOr o f = .accepted (f x) :=
  ⟨by rintro rfl; rfl, by rintro x rfl; rfl⟩

/-! ## The table that an address selects (Table 42) -/

section
variable {p : PortAddress}

theorem writeTable_line (is : p.select = 0) : writeTable s p w = writeLineEntry s (Fin.ofNat 32 p.index) p.offset w := by
  simp only [writeTable, is]

theorem writeTable_profile (is : p.select = 1) : writeTable s p w = writeProfile s (Fin.ofNat 4 p.index) p.offset w := by
  simp only [writeTable, is]

theorem writeTable_group (is : p.select = 2) : writeTable s p w = writeGroup s (Fin.ofNat 8 p.index) p.offset w := by
  simp only [writeTable, is]

theorem writeTable_rule (is : p.select = 3) : writeTable s p w = writeRule s (Fin.ofNat 16 p.index) p.offset w := by
  simp only [writeTable, is]

theorem writeTable_output (is : p.select = 4) : writeTable s p w = writeOutput s (Fin.ofNat 8 p.index) p.offset w := by
  simp only [writeTable, is]

theorem writeTable_escalation (is : p.select = 5) :
    writeTable s p w = writeEscalation s (Fin.ofNat 4 p.index) p.offset w := by
  simp only [writeTable, is]

/-- The pages are read-only (R199). -/
theorem writeTable_page (is : 6 ≤ p.select) : writeTable s p w = .ignored := by
  unfold writeTable
  split
  case h_7 => rfl
  all_goals next select => exact absurd (select ▸ is) (by decide)

end

/-! ## The entries, table by table -/

section
variable {n : Nat}

/-- LINE words from 2 up are status (Table 43). -/
theorem writeLineEntry_status (l : LineId) (status : 2 ≤ n) : writeLineEntry s l n w = .ignored := if_pos status

theorem writeLineEntry_armed {l : LineId} (config : n < 2) (armed : (s.lines.get l).cond ≠ .disarmed) :
    writeLineEntry s l n w = .refused .tableInUse := by
  rw [writeLineEntry, if_neg (by omega), if_pos (by simpa [LineState.armed] using armed)]

theorem writeLineEntry_disarmed {l : LineId} (config : n < 2) (disarmed : (s.lines.get l).cond = .disarmed) :
    writeLineEntry s l n w =
      acceptOr (if n = 0 then (s.lineTable.get l).setWord0 w else (s.lineTable.get l).setWord1 w)
        fun e => { s with lineTable := put s.lineTable l e } := by
  rw [writeLineEntry, if_neg (by omega), if_neg (by simp [LineState.armed, disarmed])]

/-- A profile is in use where an armed line names it (R3). -/
theorem profileInUse_iff (k : Fin 4) : s.profileInUse k = true ↔
    ∃ l, (s.lines.get l).cond ≠ .disarmed ∧ (s.lineTable.get l).profile = k := by
  simp [State.profileInUse, LineState.armed]

theorem writeProfile_used {k : Fin 4} (used : ∃ l, (s.lines.get l).cond ≠ .disarmed ∧ (s.lineTable.get l).profile = k) :
    writeProfile s k n w = .refused .tableInUse := if_pos ((profileInUse_iff k).mpr used)

theorem writeProfile_unused {k : Fin 4}
    (unused : ∀ l, (s.lines.get l).cond = .disarmed ∨ (s.lineTable.get l).profile ≠ k) : writeProfile s k n w =
      acceptOr ((s.profiles.get k).setWord n w) fun x => { s with profiles := put s.profiles k x } := by
  refine if_neg fun used => ?_
  obtain ⟨l, armed, names⟩ := (profileInUse_iff k).mp used
  exact (unused l).elim armed fun other => other names

/-- GROUP words from 1 up are status (R57). -/
theorem writeGroup_status (g : GroupId) (status : 1 ≤ n) : writeGroup s g n w = .ignored := if_pos status

theorem writeGroup_busy {g : GroupId} (config : n = 0) (busy : (s.groups.get g).phase ≠ .clear) :
    writeGroup s g n w = .refused .tableInUse := by
  rw [writeGroup, if_neg (by omega), if_pos busy]

theorem writeGroup_clear {g : GroupId} (config : n = 0) (clear : (s.groups.get g).phase = .clear) :
    writeGroup s g n w = .accepted (s.setGroup g { s.groups.get g with window := w }) := by
  rw [writeGroup, if_neg (by omega), if_neg (not_not.mpr clear)]

/-- RULE words from 7 up are status (R108). -/
theorem writeRule_status (r : RuleId) (status : 7 ≤ n) : writeRule s r n w = .ignored := if_pos status

theorem writeRule_enabled {r : RuleId} (config : n < 7) (enabled : (s.rules.get r).enabled = true) :
    writeRule s r n w = .refused .tableInUse := by
  rw [writeRule, if_neg (by omega), if_pos enabled]

theorem writeRule_disabled {r : RuleId} (config : n < 7) (disabled : (s.rules.get r).enabled = false) :
    writeRule s r n w = acceptOr ((s.rules.get r).setWord n w) fun x => s.setRule r x := by
  rw [writeRule, if_neg (by omega), if_neg (by simp [disabled])]

/-- OUTPUT word 3 is status (R167). -/
theorem writeOutput_status (q : OutputId) (status : n = 3) : writeOutput s q n w = .ignored := if_pos status

theorem writeOutput_config (q : OutputId) (config : n ≠ 3) : writeOutput s q n w =
    acceptOr ((s.outputs.lines.get q).setWord n w) fun o => s.setOutput q o := if_neg config

end

/-- The words that a write ignores (R198, R199). -/
theorem writeTable_readOnly {p : PortAddress} (readOnly : 6 ≤ p.select ∨ (p.select = 0 ∧ 2 ≤ p.offset) ∨
    (p.select = 2 ∧ 1 ≤ p.offset) ∨ (p.select = 3 ∧ 7 ≤ p.offset) ∨ (p.select = 4 ∧ p.offset = 3)) :
    writeTable s p w = .ignored := by
  obtain page | ⟨is, status⟩ | ⟨is, status⟩ | ⟨is, status⟩ | ⟨is, status⟩ := readOnly
  · exact writeTable_page page
  · rw [writeTable_line is, writeLineEntry_status _ status]
  · rw [writeTable_group is, writeGroup_status _ status]
  · rw [writeTable_rule is, writeRule_status _ status]
  · rw [writeTable_output is, writeOutput_status _ status]

end

/-- Settles O53: the word's address, taken or ignored. -/
theorem addressWritesNameExistingWords : Obligations.AddressWritesNameExistingWords := by
  intro s v p running is
  rw [← PortAddress.ofWord_eq] at is
  subst is
  refine ⟨fun exists_ => ?_, fun nothing => ?_, fun h valid c listed => ?_, fun h => by cases h <;> rfl⟩
  · have named := (PortAddress.valid_iff _).mpr exists_
    rw [exec_tableAddressWrite running, exec_mirrorAddressWrite running, writePortAddress_named _ named,
      writePortAddress_named _ named]
    exact ⟨rfl, rfl⟩
  · have unnamed := mt (PortAddress.valid_iff _).mp nothing
    rw [exec_tableAddressWrite running, exec_mirrorAddressWrite running, writePortAddress_ignored _ unnamed,
      writePortAddress_ignored _ unnamed]
    exact ⟨rfl, rfl⟩
  · obtain rfl | rfl : c = .tableAddressWrite v ∨ c = .mirrorAddressWrite v := by simpa using listed
    · exact ⟨_, exec_tableAddressWrite running v, (writePortAddress_undisturbed .control v s).ports h valid⟩
    · exact ⟨_, exec_mirrorAddressWrite running v, (writePortAddress_undisturbed .archive v s).ports h valid⟩

/-- Settles O55: the four outcomes, then which word has which, table by table. -/
theorem tableDataWriteIsJudged : Obligations.TableDataWriteIsJudged := by
  intro s w p running is _
  subst is
  rw [exec_tableDataWrite running]
  refine ⟨⟨_, rfl, writeTableData_ports w s⟩, fun reason judged => by rw [writeTableData_refused judged],
    fun judged => by rw [writeTableData_ignored judged],
    fun u judged => ⟨by rw [writeTableData_accepted judged], writeTable_accepted judged⟩,
    ?lineArmed, ?profileUsed, ?groupBusy, ?ruleEnabled, writeTable_readOnly, ?group, ?dropped, ?line, ?profile, ?rule, ?output, ?escalation⟩
  case lineArmed => exact fun select config armed => (writeTable_line select).trans (writeLineEntry_armed config armed)
  case profileUsed => exact fun select used => (writeTable_profile select).trans (writeProfile_used used)
  case groupBusy => exact fun select config busy => (writeTable_group select).trans (writeGroup_busy config busy)
  case ruleEnabled => exact fun select config enabled => (writeTable_rule select).trans (writeRule_enabled config enabled)
  case group => exact fun select config clear => (writeTable_group select).trans (writeGroup_clear config clear)
  case dropped =>
    intro select word
    rw [writeTable_output select, word, writeOutput_config _ (by decide)]
    rfl
  case line =>
    rintro l select index config disarmed _ rfl
    rw [writeTable_line select, index, ofNat_val, writeLineEntry_disarmed config disarmed]
    exact acceptOr_judged _ _
  case profile =>
    intro k select index unused
    rw [writeTable_profile select, index, ofNat_val, writeProfile_unused unused]
    exact acceptOr_judged _ _
  case rule =>
    intro r select index config disabled
    rw [writeTable_rule select, index, ofNat_val, writeRule_disabled config disabled]
    exact acceptOr_judged _ _
  case output =>
    intro q select index config
    rw [writeTable_output select, index, ofNat_val, writeOutput_config _ (by omega)]
    exact acceptOr_judged _ _
  case escalation =>
    intro k select index
    rw [writeTable_escalation select, index, ofNat_val]
    exact acceptOr_judged _ _

end Sys2Proof.Machine
